-- ==== Sys2Proof/Word.lean ====
section
/-! DEFINITION. The words of the core: every value is an unsigned bit vector of a stated width (00_scope.md R9). -/

namespace Sys2Proof

/-- The request word `in`, and the packed response view: 64 bits (30_encoding.md R43, R62). -/
abbrev Word := BitVec 64

/-- A data word, a measurement: 16 bits (00_scope.md R6 `DATA_WIDTH`). -/
abbrev Data := BitVec 16

/-- A byte, a CRC value, the CRC accumulator: 8 bits (00_scope.md R6 `CRC_WIDTH`). -/
abbrev Byte := BitVec 8

/-- One bit: `ok`, `rsp_match` (30_encoding.md R44, R54). -/
abbrev Bit := BitVec 1

/-- A group tag as a port carries it: 2 bits (30_encoding.md R54, R56). -/
abbrev TagBits := BitVec 2

end Sys2Proof
end

