-- ==== Sys2Proof/Syntax.lean ====
section
/-! DEFINITION. The requests of the core, one constructor per row of spec/opcode_table.json. -/

namespace Sys2Proof

/-- The six frame bytes in the order the bus read returned them (41_frame_validator.md R77, 20_memory.md R32). -/
structure Frame where
  b0 : Byte
  b1 : Byte
  b2 : Byte
  b3 : Byte
  b4 : Byte
  b5 : Byte
deriving DecidableEq, Repr

/-- A request, after decoding (30_encoding.md R45, R61).
The request bits an operation ignores are no part of it (R51). -/
inductive Instr where
  /-- `crc8.compute <data16>`, op 00 (40_crc8.md R66). -/
  | crc8Compute (data : Data)
  /-- `crc8.verify <data16>, <crc8>`, op 01 (40_crc8.md R67). -/
  | crc8Verify (data : Data) (rxCrc : Byte)
  /-- `frame.validate <b0>,…,<b5> count=<n> ok=<0|1>`, op 10 (41_frame_validator.md R80). -/
  | frameValidate (ok : Bit) (count : Byte) (b : Frame)
  /-- The reserved op 11: the words `decode` of 30_encoding.md R61 refuses (R52). It has no operands and no mnemonic. -/
  | reservedOp3
deriving DecidableEq, Repr

end Sys2Proof
end

