-- ==== Sys2Proof/Config.lean ====
section
/-! DEFINITION. What is fixed for this hardware (00_scope.md R6), and the parameters the spec leaves open
(92_eei_decisions.md D1, D22, D23), each an opaque constant: no value of it can be proved. -/

namespace Sys2Proof.Config

/-! ## The fixed parameters of 00_scope.md R2 and R6; no request reads or changes them (10_state.md R19). -/

/-- `CRC_POLY`. -/
def crcPoly : Byte := 0x31
/-- `CRC_INIT`. -/
def crcInit : Byte := 0xFF
/-- `CRC_REFIN`. -/
def crcRefIn : Bool := false
/-- `CRC_REFOUT`. -/
def crcRefOut : Bool := false
/-- `CRC_XOROUT`. -/
def crcXorOut : Byte := 0x00
/-- `CRC_WIDTH`: how often one byte step shifts. -/
def crcWidth : Nat := 8
/-- `GROUP_BYTES`. -/
def groupBytes : Nat := 3
/-- `FRAME_GROUPS`. -/
def frameGroups : Nat := 2
/-- `FRAME_BYTES`. -/
def frameBytes : Nat := 6

/-! ## Open parameters. None affects a response of the core (00_scope.md R7, 70_reset_and_hazards.md R119). -/

/-- `LATENCY`: the time from a request to its response; not observable at the transaction level. -/
opaque latency : Nat

/-- The sensor commands the source names (60_exceptions.md R101). -/
inductive Command where
  | measureRaw | selfTest | heaterOff | serialId | softReset | init
deriving DecidableEq, Repr

/-- The 2-byte sequence of each command: `CMD_MEASURE_RAW`, `CMD_SELF_TEST`, … (92_eei_decisions.md D23). -/
opaque commandBytes : Command → Byte × Byte
/-- `BUS_ADDRESS`. -/
opaque busAddress : Nat
/-- `REGISTER_MARKER`. -/
opaque registerMarker : Nat
/-- `TIME_UNIT`. -/
opaque timeUnit : Nat
/-- `BUS_TIMEOUT`, owned by the bus driver. -/
opaque busTimeout : Nat
/-- `SETTLE_MEASURE`, in time units. -/
opaque settleMeasure : Nat
/-- `SETTLE_INIT`, in time units. -/
opaque settleInit : Nat
/-- The settle delay of the commands for which the spec states none (log entry 14). -/
opaque settleOther : Command → Nat
/-- The byte count of the read after the commands for which the spec states none (log entry 19). -/
opaque readBytesOther : Command → Nat
/-- `CYCLE_PERIOD`, in time units. -/
opaque cyclePeriod : Nat

end Sys2Proof.Config
end

