-- ==== Sys2Proof/Machine/Crc.lean ====
section
/-! DEFINITION. The CRC functions of 40_crc8.md: the reference definition (R63, R64), the byte update (R73), the
table-driven forms (R68-R70), and the parameter-set reading (00_scope.md R2). -/

namespace Sys2Proof.Machine

/-! ## The reference definition -/

/-- One iteration of R63: shift left by one within 8 bits, the top bit dropped, XOR the polynomial if the top bit
was set. -/
def stepBit (a : Byte) : Byte :=
  if a.getLsbD 7 then (a <<< 1) ^^^ Config.crcPoly else a <<< 1

/-- `n` iterations of `stepBit`. -/
def stepBits : Nat → Byte → Byte
  | 0, a => a
  | n + 1, a => stepBits n (stepBit a)

/-- `step8` (R63): eight iterations. -/
def step8 (a : Byte) : Byte := stepBits Config.crcWidth a

/-- The byte update `acc <- step8(acc ^ byte)` (R73). -/
def crcUpdate (acc byte : Byte) : Byte := step8 (acc ^^^ byte)

/-- `v[15:8]`, the high byte of a 16-bit value (00_scope.md R8). -/
def highByte (d : Data) : Byte := d.extractLsb' 8 8
/-- `v[7:0]`, the low byte of a 16-bit value (00_scope.md R8). -/
def lowByte (d : Data) : Byte := d.extractLsb' 0 8

/-- `crc8` (R64), the reference definition: high byte first, then low byte, no inversion. -/
def crc8 (d : Data) : Byte :=
  let acc := Config.crcInit
  let acc := acc ^^^ highByte d
  let acc := step8 acc
  let acc := acc ^^^ lowByte d
  step8 acc

/-- The byte update run over a sequence of bytes from the initial value (R73). -/
def crcResidue (bytes : List Byte) : Byte := bytes.foldl crcUpdate Config.crcInit

/-! ## Table-driven forms -/

/-- A row of 16 byte entries, side by side as R69 and R70 print them: the first column is the highest byte. -/
abbrev TableRow := BitVec 128

/-- The entry in a column of a row. -/
def TableRow.entry (r : TableRow) (column : Nat) : Byte := r.extractLsb' (8 * (15 - column)) 8

/-! The rows of the table of R69: one per high nibble, columns by low nibble. -/

def tableRow0 : TableRow := 0x00316253C4F5A697B988DBEA7D4C1F2E
def tableRow1 : TableRow := 0x4372211087B6E5D4FACB98A93E0F5C6D
def tableRow2 : TableRow := 0x86B7E4D5427320113F0E5D6CFBCA99A8
def tableRow3 : TableRow := 0xC5F4A796013063527C4D1E2FB889DAEB
def tableRow4 : TableRow := 0x3D0C5F6EF9C89BAA84B5E6D740712213
def tableRow5 : TableRow := 0x7E4F1C2DBA8BD8E9C7F6A59403326150
def tableRow6 : TableRow := 0xBB8AD9E87F4E1D2C02336051C6F7A495
def tableRow7 : TableRow := 0xF8C99AAB3C0D5E6F4170231285B4E7D6
def tableRow8 : TableRow := 0x7A4B1829BE8FDCEDC3F2A19007366554
def tableRow9 : TableRow := 0x39085B6AFDCC9FAE80B1E2D344752617
def tableRowA : TableRow := 0xFCCD9EAF38095A6B4574271681B0E3D2
def tableRowB : TableRow := 0xBF8EDDEC7B4A192806376455C2F3A091
def tableRowC : TableRow := 0x4776251483B2E1D0FECF9CAD3A0B5869
def tableRowD : TableRow := 0x04356657C0F1A293BD8CDFEE79481B2A
def tableRowE : TableRow := 0xC1F0A3920534675678491A2BBC8DDEEF
def tableRowF : TableRow := 0x82B3E0D1467724153B0A5968FFCE9DAC

/-- The 16 by 16 table of R69. -/
def crcTable : List TableRow :=
  [tableRow0, tableRow1, tableRow2, tableRow3, tableRow4, tableRow5, tableRow6, tableRow7]
    ++ [tableRow8, tableRow9, tableRowA, tableRowB, tableRowC, tableRowD, tableRowE, tableRowF]

/-- The high nibble `i[7:4]`. -/
def highNibble (i : Byte) : Nat := (i.extractLsb' 4 4).toNat
/-- The low nibble `i[3:0]`. -/
def lowNibble (i : Byte) : Nat := (i.extractLsb' 0 4).toNat

/-- `T[i]`: row `i[7:4]`, column `i[3:0]` (R68). The table has all 16 rows, so no default is read. -/
def tableT (i : Byte) : Byte := (crcTable.getD (highNibble i) 0).entry (lowNibble i)

/-- `crc8_table` (R68). -/
def crc8Table (d : Data) : Byte :=
  let acc := tableT (0xFF ^^^ highByte d)
  tableT (acc ^^^ lowByte d)

/-- `TH` (R70). -/
def nibbleTableHigh : TableRow := 0x004386C53D7EBBF87A39FCBF4704C182
/-- `TL` (R70). -/
def nibbleTableLow : TableRow := 0x00316253C4F5A697B988DBEA7D4C1F2E

/-- `TH[i[7:4]] ^ TL[i[3:0]]` (R70). -/
def nibbleT (i : Byte) : Byte :=
  nibbleTableHigh.entry (highNibble i) ^^^ nibbleTableLow.entry (lowNibble i)

/-- The CRC through the two nibble tables (R70, R71). -/
def crc8Nibble (d : Data) : Byte :=
  let acc := nibbleT (0xFF ^^^ highByte d)
  nibbleT (acc ^^^ lowByte d)

/-! ## The parameter set -/

/-- `n` shifts of a CRC register of width 8 with the given polynomial, most significant bit first. -/
def parameterBits (poly : Byte) : Nat → Byte → Byte
  | 0, a => a
  | n + 1, a => parameterBits poly n (if a.msb then (a <<< 1) ^^^ poly else a <<< 1)

/-- The CRC that a parameter set `poly init refin refout xorout` of width 8 names, over a list of bytes
(00_scope.md R2). What `refin`, `refout` and `xorout` mean is the usual reading of such a set (PRESUMED, log entry 13). -/
def crcOfParameters (poly init : Byte) (refIn refOut : Bool) (xorOut : Byte) (bytes : List Byte) : Byte :=
  let acc := bytes.foldl (fun acc b => parameterBits poly 8 (acc ^^^ (if refIn then b.reverse else b))) init
  (if refOut then acc.reverse else acc) ^^^ xorOut

/-! ## Error weight -/

/-- The number of bits that are 1 in a 16-bit error pattern (R74). -/
def bitWeight (e : Data) : Nat := (List.range 16).countP fun i => e.getLsbD i

end Sys2Proof.Machine
end

