-- ==== Sys2Proof/WellFormed.lean ====
section
/-! DEFINITION. Which requests are legal. Every operand has a fixed width, so the one check is the operation itself:
every word with op ≠ 11 is a legal request (30_encoding.md R53), and op 11 encodes no operation (R52). -/

namespace Sys2Proof

/-- The request is one a conforming host may issue (30_encoding.md R52, R53; 60_exceptions.md R107). -/
def Instr.wellFormed : Instr → Bool
  | .crc8Compute _ => true
  | .crc8Verify _ _ => true
  | .frameValidate _ _ _ => true
  | .reservedOp3 => false

end Sys2Proof
end

