-- ==== Sys2Proof/Decode.lean ====
section
/-! DEFINITION. The decoder of 30_encoding.md R61, total on all 2^64 words, then the encoder and the opcode table. -/

namespace Sys2Proof

/-! ## Fields of the request word (30_encoding.md R44, R46-R50) -/

/-- `in[63:62]`. -/
def opField (w : Word) : BitVec 2 := w.extractLsb' 62 2
/-- `in[61]`. -/
def okField (w : Word) : Bit := w.extractLsb' 61 1
/-- `in[60:56]`, ignored by every operation (R51). -/
def rsvField (w : Word) : BitVec 5 := w.extractLsb' 56 5
/-- `in[55:48]`. -/
def countField (w : Word) : Byte := w.extractLsb' 48 8
/-- `in[47:0]`. -/
def payloadField (w : Word) : BitVec 48 := w.extractLsb' 0 48

/-- `in.payload[23:8]`: the data word of the CRC8 operations (R46, R47). -/
def dataField (w : Word) : Data := (payloadField w).extractLsb' 8 16
/-- `in.payload[7:0]`: the received checksum byte of CRC8_VERIFY (R47). -/
def rxCrcField (w : Word) : Byte := (payloadField w).extractLsb' 0 8
/-- Frame byte `b[i] = in.payload[47-8i : 40-8i]`, i in 0..5 (R49). -/
def frameByte (w : Word) (i : Nat) : Byte := (payloadField w).extractLsb' (40 - 8 * i) 8

/-- The frame of a FRAME_VALIDATE request (R49). -/
def frameField (w : Word) : Frame :=
  { b0 := frameByte w 0, b1 := frameByte w 1, b2 := frameByte w 2,
    b3 := frameByte w 3, b4 := frameByte w 4, b5 := frameByte w 5 }

/-! ## Decoding -/

/-- Read a request word. The last branch is op 11 and nothing else (R45). -/
def decode (w : Word) : Instr :=
  if opField w = 0b00#2 then .crc8Compute (dataField w)
  else if opField w = 0b01#2 then .crc8Verify (dataField w) (rxCrcField w)
  else if opField w = 0b10#2 then .frameValidate (okField w) (countField w) (frameField w)
  else .reservedOp3

/-- Why a word is refused. The spec has one reason (60_exceptions.md R90). -/
inductive DecodeRefusal where
  /-- op = 11 (30_encoding.md R52). -/
  | reservedOp
deriving DecidableEq, Repr

/-- The reason to refuse a decoded word, if there is one (30_encoding.md R52, R53). -/
def Instr.refusal : Instr → Option DecodeRefusal
  | .crc8Compute _ => none
  | .crc8Verify _ _ => none
  | .frameValidate _ _ _ => none
  | .reservedOp3 => some .reservedOp

/-- `decode(in) -> Request | Refused` exactly as 30_encoding.md R61 types it. -/
def decodeRequest (w : Word) : Except DecodeRefusal Instr :=
  match (decode w).refusal with
  | some r => .error r
  | none => .ok (decode w)

/-- The decoder on an opcode-table word of `nbits` bits; a request has one length, 64 bits (R43; log entry 9). -/
def decodeTableWord (nbits w : Nat) : Option Instr :=
  if nbits ≤ 64 then some (decode (BitVec.ofNat 64 w)) else none

/-! ## Encoding: every ignored bit is 0 (30_encoding.md R51, R58) -/

/-- The request word from its fields, in the order of 30_encoding.md R44. -/
def requestWord (op : BitVec 2) (ok : Bit) (rsv : BitVec 5) (count : Byte) (payload : BitVec 48) : Word :=
  op ++ ok ++ rsv ++ count ++ payload

/-- The payload of a frame: byte 0 in the most significant place (30_encoding.md R49). -/
def Frame.payload (b : Frame) : BitVec 48 := b.b0 ++ b.b1 ++ b.b2 ++ b.b3 ++ b.b4 ++ b.b5

/-- The word of a request (30_encoding.md R45-R49, R58). -/
def encode : Instr → Word
  | .crc8Compute data => requestWord 0b00#2 0 0 0 ((0 : BitVec 24) ++ data ++ (0 : Byte))
  | .crc8Verify data rxCrc => requestWord 0b01#2 0 0 0 ((0 : BitVec 24) ++ data ++ rxCrc)
  | .frameValidate ok count b => requestWord 0b10#2 ok 0 count b.payload
  | .reservedOp3 => requestWord 0b11#2 0 0 0 0

/-! ## spec/opcode_table.json -/

/-- One row: its mnemonic, its `match` and `mask`, and the bits its `encoding` string gives a letter or a digit
(every bit that is not `x`). -/
structure OpcodeRow where
  mnemonic : String
  value : Word
  mask : Word
  used : Word
deriving DecidableEq, Repr

/-- The row's `match` and `mask` accept the word. -/
def OpcodeRow.accepts (r : OpcodeRow) (w : Word) : Bool := w &&& r.mask == r.value

def rowCrc8Compute : OpcodeRow :=
  { mnemonic := "CRC8_COMPUTE", value := 0x0000000000000000, mask := 0xC000000000000000, used := 0xC000000000FFFF00 }
def rowCrc8Verify : OpcodeRow :=
  { mnemonic := "CRC8_VERIFY", value := 0x4000000000000000, mask := 0xC000000000000000, used := 0xC000000000FFFFFF }
def rowFrameValidate : OpcodeRow :=
  { mnemonic := "FRAME_VALIDATE", value := 0x8000000000000000, mask := 0xC000000000000000, used := 0xE0FFFFFFFFFFFFFF }
def rowReservedOp3 : OpcodeRow :=
  { mnemonic := "RESERVED_OP3", value := 0xC000000000000000, mask := 0xC000000000000000, used := 0xC000000000000000 }

/-- The opcode table, in its order. -/
def opcodeTable : List OpcodeRow := [rowCrc8Compute, rowCrc8Verify, rowFrameValidate, rowReservedOp3]

/-- The row of a request. -/
def Instr.row : Instr → OpcodeRow
  | .crc8Compute _ => rowCrc8Compute
  | .crc8Verify _ _ => rowCrc8Verify
  | .frameValidate _ _ _ => rowFrameValidate
  | .reservedOp3 => rowReservedOp3

end Sys2Proof
end

