-- ==== Sys2Proof/Machine/State.lean ====
section
/-! DEFINITION. The state of the model (10_state.md R28), the response ports (30_encoding.md R54), the core's inputs,
and the reasons a step could stop. -/

namespace Sys2Proof.Machine

/-- The response ports (30_encoding.md R54). One value of this type is one response, visible whole (00_scope.md R12). -/
structure Response where
  rspCrc : Byte
  rspMatch : Bit
  rspTag1 : TagBits
  rspVal1 : Data
  rspCalc1 : Byte
  rspTag2 : TagBits
  rspVal2 : Data
  rspCalc2 : Byte
deriving DecidableEq, Repr

/-- The names of the response ports (30_encoding.md R54). -/
inductive Port where
  | rspCrc | rspMatch | rspTag1 | rspVal1 | rspCalc1 | rspTag2 | rspVal2 | rspCalc2
deriving DecidableEq, Repr

/-- The result tag of one group (30_encoding.md R56). -/
inductive Tag where
  | valid | checksumError | transportError
deriving DecidableEq, Repr

/-- The levels of the core's inputs at one step (10_state.md R23): the reset input, and the request the host
presents, if any. -/
structure HostInput where
  reset : Bool
  request : Option Word
deriving DecidableEq, Repr

/-- The host presents a request; reset is not asserted. -/
def HostInput.present (w : Word) : HostInput := { reset := false, request := some w }
/-- The host presents nothing; reset is not asserted. -/
def HostInput.idle : HostInput := { reset := false, request := none }
/-- Reset is asserted; `lost` is a request the core has not answered, if there is one (70_reset_and_hazards.md R108). -/
def HostInput.resetAsserted (lost : Option Word) : HostInput := { reset := true, request := lost }

/-- The model's state record (10_state.md R28), and beside it the inputs the host will drive. -/
structure State where
  /-- The (request word, response) pairs the core has answered, oldest first. -/
  history : List (Word × Response)
  /-- Set by a refused request; cleared by the reset input only (60_exceptions.md R92, 70_reset_and_hazards.md R108). -/
  refused : Bool
  /-- The model's own field: the input levels of the coming steps, the next step's first (log entries 1 and 2). -/
  inputs : List HostInput
deriving DecidableEq, Repr

/-- Reasons to stop with a fault: none. The core raises no exception and takes no trap, and no request makes it stop
(60_exceptions.md R89, R95). Nothing raises a fault; safe. -/
inductive Fault where
deriving DecidableEq, Repr

/-- Reasons to stop with no meaning. -/
inductive Refusal where
  /-- Raised by an arm of `exec` for an instruction that has no meaning yet; no arm does. Safe. -/
  | notModelled (mnemonic : String)
deriving DecidableEq, Repr

/-- The core right after reset: no answered request, no refused mark (10_state.md R27, R28; 70_reset_and_hazards.md
R108-R110). The host has presented nothing (DESIGN CHOICE, log entry 2). -/
def State.reset : State := { history := [], refused := false, inputs := [] }

end Sys2Proof.Machine
end

