-- ==== Sys2Proof/Machine/Operands.lean ====
section
/-! DEFINITION. How operands are assembled (20_memory.md R29, 30_encoding.md R50, 41_frame_validator.md R77-R79), and how
the host builds them (60_exceptions.md R105). -/

namespace Sys2Proof.Machine

/-- A 16-bit value from its two bytes, high byte first: `{hi, lo}` (20_memory.md R29). -/
def dataOfBytes (hi lo : Byte) : Data := hi ++ lo

/-- The two groups of a frame (41_frame_validator.md R77, R78: g = 0 and g = 1). -/
inductive GroupIndex where
  | one | two
deriving DecidableEq, Repr

/-- A group as on the wire: high byte, low byte, checksum byte (41_frame_validator.md R77). -/
structure Group where
  hi : Byte
  lo : Byte
  rx : Byte
deriving DecidableEq, Repr

/-- Group 1 is `(b[0], b[1], b[2])`, group 2 is `(b[3], b[4], b[5])` (41_frame_validator.md R77). -/
def frameGroup (b : Frame) : GroupIndex → Group
  | .one => { hi := b.b0, lo := b.b1, rx := b.b2 }
  | .two => { hi := b.b3, lo := b.b4, rx := b.b5 }

/-- The measurement of a group, `value_g` (41_frame_validator.md R78). -/
def groupValue (g : Group) : Data := dataOfBytes g.hi g.lo

/-- The frame was not received: `ok = 0` or `count != 6` (41_frame_validator.md R79, R88). -/
def transportFailed (ok : Bit) (count : Byte) : Bool :=
  ok == 0#1 || count.toNat != Config.frameBytes

/-- The count the host presents for a read that returned `n` bytes: saturated at 255 (30_encoding.md R48). -/
def saturatedCount (n : Nat) : Byte := BitVec.ofNat 8 (min n 255)

/-- The frame the host presents: the returned bytes in order, the remaining ones 0 (60_exceptions.md R105). -/
def frameOfBytes (bytes : List Byte) : Frame :=
  { b0 := bytes.getD 0 0, b1 := bytes.getD 1 0, b2 := bytes.getD 2 0,
    b3 := bytes.getD 3 0, b4 := bytes.getD 4 0, b5 := bytes.getD 5 0 }

end Sys2Proof.Machine
end

