-- ==== Sys2Proof/Machine/Flags.lean ====
section
/-! DEFINITION. The per-request results: the match bit, the tags, and the response ports by name. The core has no flag
that persists between requests (10_state.md R18). -/

namespace Sys2Proof.Machine

/-- `rsp_match`: 1 for true, 0 for false (30_encoding.md R57). -/
def matchBit (computed received : Byte) : Bit := if computed = received then 1#1 else 0#1

/-- The tag encoding of 30_encoding.md R56. -/
def Tag.bits : Tag → TagBits
  | .valid => 0b00
  | .checksumError => 0b01
  | .transportError => 0b10

/-- The tag a port value names; `11` is never produced and names none (30_encoding.md R56, 93 U2). -/
def Tag.ofBits (t : TagBits) : Option Tag :=
  if t = 0b00#2 then some .valid
  else if t = 0b01#2 then some .checksumError
  else if t = 0b10#2 then some .transportError
  else none

/-- The tag of a group that arrived (41_frame_validator.md R80, R84). -/
def checksumTag (computed received : Byte) : Tag := if computed = received then .valid else .checksumError

/-- A response with every port 0: the starting point of each response (30_encoding.md R55). -/
def Response.zero : Response :=
  { rspCrc := 0, rspMatch := 0, rspTag1 := 0, rspVal1 := 0, rspCalc1 := 0, rspTag2 := 0, rspVal2 := 0, rspCalc2 := 0 }

/-- The value on a port, as a number. -/
def Response.port (r : Response) : Port → Nat
  | .rspCrc => r.rspCrc.toNat
  | .rspMatch => r.rspMatch.toNat
  | .rspTag1 => r.rspTag1.toNat
  | .rspVal1 => r.rspVal1.toNat
  | .rspCalc1 => r.rspCalc1.toNat
  | .rspTag2 => r.rspTag2.toNat
  | .rspVal2 => r.rspVal2.toNat
  | .rspCalc2 => r.rspCalc2.toNat

/-- The ports an operation writes: the "written by" column of 30_encoding.md R54. -/
def portsWritten : Instr → List Port
  | .crc8Compute _ => [.rspCrc]
  | .crc8Verify _ _ => [.rspCrc, .rspMatch]
  | .frameValidate _ _ _ => [.rspTag1, .rspVal1, .rspCalc1, .rspTag2, .rspVal2, .rspCalc2]
  | .reservedOp3 => []

/-- The packed response view `Q` (30_encoding.md R62). -/
def Response.packed (r : Response) : Word :=
  r.rspCrc ++ r.rspMatch ++ (0 : BitVec 1) ++ r.rspTag1 ++ r.rspTag2 ++ (0 : BitVec 2)
    ++ r.rspVal1 ++ r.rspCalc1 ++ r.rspVal2 ++ r.rspCalc2

end Sys2Proof.Machine
end

