-- ==== Sys2Proof/Machine/Ops.lean ====
section
/-! DEFINITION. The named operations over State: reading the inputs, answering a request, refusing one, and reset.
The core has no exception entry and no return (60_exceptions.md R95); `State.refuse` is the one shared operation for a
request that gets no response. -/

namespace Sys2Proof.Machine

/-- Reset is asserted at this step (70_reset_and_hazards.md R108). -/
def State.resetAsserted (s : State) : Bool :=
  match s.inputs with
  | [] => false
  | i :: _ => i.reset

/-- The request the core accepts at this step: while reset is asserted it accepts none (70_reset_and_hazards.md R108),
and it never starts a step by itself (10_state.md R26). -/
def State.presented (s : State) : Option Word :=
  match s.inputs with
  | [] => none
  | i :: _ => if i.reset then none else i.request

/-- Answer the presented request: append its word and the response (10_state.md R28). With no request presented there
is nothing to answer and nothing to record (log entry 6). -/
def State.answer (r : Response) (s : State) : State :=
  match s.presented with
  | some w => { s with history := s.history ++ [(w, r)] }
  | none => s

/-- Refuse a request: set the mark, append nothing (10_state.md R28, 60_exceptions.md R92). -/
def State.refuse (s : State) : State := { s with refused := true }

/-- Reset starts a new launch: `history <- []`, `refused <- false` (70_reset_and_hazards.md R108). -/
def State.takeReset (s : State) : State := { s with history := [], refused := false }

/-- The step is over: the next input levels apply. -/
def State.consumeInput (s : State) : State := { s with inputs := s.inputs.tail }

/-- The last response given since reset; before the first there is none, and no value stands for it
(70_reset_and_hazards.md R110). -/
def State.lastResponse (s : State) : Option Response := s.history.getLast?.map Prod.snd

end Sys2Proof.Machine
end

