-- ==== Sys2Proof/Machine/Crc8.lean ====
section
/-! DEFINITION. CRC8_COMPUTE and CRC8_VERIFY (40_crc8.md R66, R67). -/

namespace Sys2Proof.Machine

/-- The response of CRC8_COMPUTE (R66). -/
def crc8ComputeResponse (data : Data) : Response := { Response.zero with rspCrc := crc8 data }

/-- The response of CRC8_VERIFY; `rsp_crc` is given on a mismatch too (R67). -/
def crc8VerifyResponse (data : Data) (rxCrc : Byte) : Response :=
  let c := crc8 data
  { Response.zero with rspCrc := c, rspMatch := matchBit c rxCrc }

/-- CRC8_COMPUTE (R66). -/
def execCrc8Compute (data : Data) (s : State) : Host.Outcome State Fault Refusal :=
  .next (s.answer (crc8ComputeResponse data))

/-- CRC8_VERIFY (R67). A mismatch is a result, not an error (60_exceptions.md R91). -/
def execCrc8Verify (data : Data) (rxCrc : Byte) (s : State) : Host.Outcome State Fault Refusal :=
  .next (s.answer (crc8VerifyResponse data rxCrc))

end Sys2Proof.Machine
end

