-- ==== Sys2Proof/Machine/Frame.lean ====
section
/-! DEFINITION. FRAME_VALIDATE (41_frame_validator.md R77-R88). -/

namespace Sys2Proof.Machine

/-- What a response carries for one group: tag, value, computed CRC (R80). -/
structure GroupResult where
  tag : Tag
  val : Data
  computed : Byte
deriving DecidableEq, Repr

/-- The result of a group that arrived: the value and its CRC are given with either tag (R80, R82). -/
def checkGroup (g : Group) : GroupResult :=
  let v := groupValue g
  let c := crc8 v
  { tag := checksumTag c g.rx, val := v, computed := c }

/-- The result of a group of a frame that was not received; the zeros are no measurement (R80, R83). -/
def lostGroup : GroupResult := { tag := .transportError, val := 0, computed := 0 }

/-- The result of group `g`: the transport outcome decides first (60_exceptions.md R93). -/
def groupResult (ok : Bit) (count : Byte) (b : Frame) (g : GroupIndex) : GroupResult :=
  if transportFailed ok count then lostGroup else checkGroup (frameGroup b g)

/-- The response of FRAME_VALIDATE (R80). -/
def frameResponse (ok : Bit) (count : Byte) (b : Frame) : Response :=
  let g1 := groupResult ok count b .one
  let g2 := groupResult ok count b .two
  { Response.zero with
    rspTag1 := g1.tag.bits, rspVal1 := g1.val, rspCalc1 := g1.computed,
    rspTag2 := g2.tag.bits, rspVal2 := g2.val, rspCalc2 := g2.computed }

/-- FRAME_VALIDATE (R80). Failures are results, given as tags (60_exceptions.md R89, R90). -/
def execFrameValidate (ok : Bit) (count : Byte) (b : Frame) (s : State) : Host.Outcome State Fault Refusal :=
  .next (s.answer (frameResponse ok count b))

end Sys2Proof.Machine
end

