-- ==== Sys2Proof/Machine/Reserved.lean ====
section
/-! DEFINITION. The reserved op 11 (30_encoding.md R52, 60_exceptions.md R92). -/

namespace Sys2Proof.Machine

/-- RESERVED_OP3: no response, the `refused` mark set, and the run goes on with the next request (30_encoding.md R52,
60_exceptions.md R92, 10_state.md R28, 95_test_vectors.md P4; log entry 4). -/
def execReservedOp3 (s : State) : Host.Outcome State Fault Refusal := .next s.refuse

end Sys2Proof.Machine
end

