-- ==== Sys2Proof/Machine/Dispatch.lean ====
section
/-! DEFINITION. The effect of each request: one arm per row of spec/opcode_table.json. -/

namespace Sys2Proof.Machine

def exec (i : Instr) (s : State) : Host.Outcome State Fault Refusal :=
  match i with
  | .crc8Compute data => Sys2Proof.Machine.execCrc8Compute data s
  | .crc8Verify data rxCrc => Sys2Proof.Machine.execCrc8Verify data rxCrc s
  | .frameValidate ok count b => Sys2Proof.Machine.execFrameValidate ok count b s
  | .reservedOp3 => Sys2Proof.Machine.execReservedOp3 s

end Sys2Proof.Machine
end

