-- ==== Sys2Proof/Machine/Step.lean ====
section
/-! DEFINITION. One step: one request and its response, or a reset, or nothing (10_state.md R16, R26, R28). -/

namespace Sys2Proof.Machine

/-- The step of 10_state.md R28. Reset comes first: a request present while it is asserted gets no response
(70_reset_and_hazards.md R108). With no request presented, the core does nothing (10_state.md R26). -/
def step (s : State) : Host.Outcome State Fault Refusal :=
  if s.resetAsserted then .next s.takeReset.consumeInput
  else
    match s.presented with
    | none => .next s.consumeInput
    | some w =>
      match exec (decode w) s with
      | .next t => .next t.consumeInput
      | .fault r => .fault r
      | .refused r => .refused r

/-- The host presents the word at the next step, before whatever it would have driven (log entry 10). -/
def State.withFetchWord (s : State) (nbits w : Nat) : State :=
  { s with inputs := HostInput.present (BitVec.ofNat 64 (w % 2 ^ nbits)) :: s.inputs }

end Sys2Proof.Machine
end

