-- ==== Sys2Proof/Machine/Assembler.lean ====
section
/-! DEFINITION. The assembler of 30_encoding.md R58-R60, from the characters of a line to request words. The lexical
points the spec leaves open are in log entry 12. -/

namespace Sys2Proof.Machine

/-- Why a line spells no request (R59). -/
inductive AsmError where
  /-- A mnemonic not in R58 and R60; the reserved op has none. -/
  | unknownMnemonic
  /-- A literal that does not fit its field: more digits than R58 allows, no digit, or a character that is no digit. -/
  | badLiteral
  /-- A `count` that is no decimal literal from 0 to 255. -/
  | badCount
  /-- An `ok` other than 0 or 1. -/
  | badOk
  /-- A frame with other than 6 byte operands. -/
  | notSixBytes
  /-- Operands or commas that are not as R58 writes them. -/
  | badOperands
deriving DecidableEq, Repr

/-- A token of a line: a run of characters between blanks and commas, or a comma. -/
inductive Token where
  | word (cs : List Char)
  | comma
deriving DecidableEq, Repr

/-- A character between tokens. -/
def isBlank (c : Char) : Bool := c = ' ' || c = '\t' || c = '\r'

/-- The token collected so far, in reverse, if there is one. -/
def flushToken : List Char → List Token
  | [] => []
  | acc => [.word acc.reverse]

/-- The tokens of a line; `#` starts a comment that runs to its end (R58). -/
def lexLine : List Char → List Char → List Token
  | acc, [] => flushToken acc
  | acc, c :: cs =>
    if c = '#' then flushToken acc
    else if c = ',' then flushToken acc ++ .comma :: lexLine [] cs
    else if isBlank c then flushToken acc ++ lexLine [] cs
    else lexLine (c :: acc) cs

/-- The digits of base 10, each at the place of its value. -/
def digitsBelowTen : List Char := "0123456789".toList
/-- The hexadecimal digits from ten on, as upper-case letters. -/
def upperDigits : List Char := "ABCDEF".toList
/-- The same digits as lower-case letters (both cases: log entry 12). -/
def lowerDigits : List Char := "abcdef".toList

/-- The value of a decimal digit: its place. -/
def decimalDigit (c : Char) : Option Nat := digitsBelowTen.idxOf? c

/-- The value of a hexadecimal digit, of either case. -/
def hexDigit (c : Char) : Option Nat :=
  (digitsBelowTen ++ upperDigits).idxOf? c <|> (digitsBelowTen ++ lowerDigits).idxOf? c

/-- The number a digit string spells in a base, most significant digit first, on top of `acc`. -/
def digitsValue (base : Nat) (digit : Char → Option Nat) : Nat → List Char → Option Nat
  | acc, [] => some acc
  | acc, c :: cs =>
    match digit c with
    | some d => digitsValue base digit (acc * base + d) cs
    | none => none

/-- The digits of a hexadecimal literal: the `0x` prefix of 00_scope.md R9 may be left out, as R58's examples do. -/
def hexDigits : List Char → List Char
  | '0' :: 'x' :: ds => ds
  | ds => ds

/-- A hexadecimal literal of at most `n` digits, the value of a field of `4 * n` bits (R58, R59). -/
def hexLiteral (n : Nat) (cs : List Char) : Except AsmError (BitVec (4 * n)) :=
  let ds := hexDigits cs
  if ds.length = 0 ∨ n < ds.length then .error .badLiteral
  else
    match digitsValue 16 hexDigit 0 ds with
    | some v => .ok (BitVec.ofNat (4 * n) v)
    | none => .error .badLiteral

/-- What follows a key such as `count=` in a token. -/
def afterKey (key cs : List Char) : Option (List Char) :=
  if key.isPrefixOf cs then some (cs.drop key.length) else none

/-- `count=<n>`, a decimal literal from 0 to 255 (R58, R59). -/
def countOperand (cs : List Char) : Except AsmError Byte :=
  match afterKey "count=".toList cs with
  | none => .error .badOperands
  | some ds =>
    if ds.length = 0 then .error .badCount
    else
      match digitsValue 10 decimalDigit 0 ds with
      | some v => if v ≤ 255 then .ok (BitVec.ofNat 8 v) else .error .badCount
      | none => .error .badCount

/-- `ok=<0|1>` (R58, R59). -/
def okOperand (cs : List Char) : Except AsmError Bit :=
  match afterKey "ok=".toList cs with
  | none => .error .badOperands
  | some ds => if ds = ['0'] then .ok 0 else if ds = ['1'] then .ok 1 else .error .badOk

/-- The literals of a comma-separated operand list, and the tokens after it. A comma belongs to the list only between
two literals, as R58 and R60 write it, so a comma after the last literal stays with what follows and no line with one
is accepted (log entry 12). -/
def operandList : List Token → List (List Char) × List Token
  | .word b :: .comma :: rest =>
    let r := operandList rest
    if r.1.isEmpty then ([b], .comma :: rest) else (b :: r.1, r.2)
  | .word b :: rest => ([b], rest)
  | ts => ([], ts)

/-- Exactly six byte literals (R59). -/
def frameOperand : List (List Char) → Except AsmError Frame
  | [c0, c1, c2, c3, c4, c5] => do
    let b0 ← hexLiteral 2 c0
    let b1 ← hexLiteral 2 c1
    let b2 ← hexLiteral 2 c2
    let b3 ← hexLiteral 2 c3
    let b4 ← hexLiteral 2 c4
    let b5 ← hexLiteral 2 c5
    return { b0 := b0, b1 := b1, b2 := b2, b3 := b3, b4 := b4, b5 := b5 }
  | _ => .error .notSixBytes

/-- `crc8.compute <data16>` (R58). -/
def asmCompute : List Token → Except AsmError Instr
  | [.word d] => (hexLiteral 4 d).map .crc8Compute
  | _ => .error .badOperands

/-- `crc8.verify <data16>, <crc8>` (R58). -/
def asmVerify : List Token → Except AsmError Instr
  | [.word d, .comma, .word c] => do
    let data ← hexLiteral 4 d
    let rxCrc ← hexLiteral 2 c
    return .crc8Verify data rxCrc
  | _ => .error .badOperands

/-- `frame.validate <b0>,…,<b5> count=<n> ok=<0|1>` (R58). -/
def asmValidate (ts : List Token) : Except AsmError Instr :=
  let ops := operandList ts
  match frameOperand ops.1, ops.2 with
  | .ok b, [.word c, .word k] => do
    let count ← countOperand c
    let ok ← okOperand k
    return .frameValidate ok count b
  | .ok _, _ => .error .badOperands
  | .error e, _ => .error e

/-- `frame.check <b0>,…,<b5>` expands to `frame.validate` with `count=6 ok=1` (R60). -/
def asmCheck (ts : List Token) : Except AsmError Instr :=
  let ops := operandList ts
  match frameOperand ops.1, ops.2 with
  | .ok b, [] => .ok (.frameValidate 1 6 b)
  | .ok _, _ => .error .badOperands
  | .error e, _ => .error e

def mnemonicCompute : List Char := "crc8.compute".toList
def mnemonicVerify : List Char := "crc8.verify".toList
def mnemonicValidate : List Char := "frame.validate".toList
def mnemonicCheck : List Char := "frame.check".toList

/-- The request a line's tokens spell; a blank or comment line spells none. -/
def asmTokens : List Token → Except AsmError (Option Instr)
  | [] => .ok none
  | .comma :: _ => .error .badOperands
  | .word m :: ops =>
    if m = mnemonicCompute then (asmCompute ops).map some
    else if m = mnemonicVerify then (asmVerify ops).map some
    else if m = mnemonicValidate then (asmValidate ops).map some
    else if m = mnemonicCheck then (asmCheck ops).map some
    else .error .unknownMnemonic

/-- The request one line spells, if it spells one (R58: one request per line). -/
def asmLine (line : List Char) : Except AsmError (Option Instr) := asmTokens (lexLine [] line)

/-- The lines of a text; `acc` is the line read so far, in reverse. -/
def splitLines : List Char → List Char → List (List Char)
  | acc, [] => [acc.reverse]
  | acc, c :: cs => if c = '\n' then acc.reverse :: splitLines [] cs else splitLines (c :: acc) cs

/-- The request words of a list of lines, in order; every ignored bit is 0 (R58). R58 and R59 speak of single lines:
that one rejected line makes the whole text an error, the first such line's, and leaves no words is the model's choice
(DESIGN CHOICE, log entry 12). -/
def assembleLines : List (List Char) → Except AsmError (List Word)
  | [] => .ok []
  | l :: ls =>
    match asmLine l, assembleLines ls with
    | .ok none, .ok ws => .ok ws
    | .ok (some i), .ok ws => .ok (encode i :: ws)
    | .error e, _ => .error e
    | .ok _, .error e => .error e

/-- The request words of a text. -/
def assemble (text : List Char) : Except AsmError (List Word) := assembleLines (splitLines [] text)

end Sys2Proof.Machine
end

