-- ==== Sys2Proof/Machine/Poller.lean ====
section
/-! DEFINITION. The host's read cycle (60_exceptions.md R101-R107): context that drives the core, not hardware of the
core (00_scope.md R5). It is a machine of its own, outside `State`; it reaches the core only through the requests it
issues and the responses it reads (Machine/Launch.lean puts the two together). -/

namespace Sys2Proof.Machine

/-! ## The bus (R101, R104) -/

/-- The settle delay after a command (R104, 70_reset_and_hazards.md R116; the commands for which neither rule states
one have an open delay, log entry 14). -/
def settleDelay : Config.Command → Nat
  | .measureRaw => Config.settleMeasure
  | .init => Config.settleInit
  | .softReset => Config.settleInit
  | .selfTest => Config.settleOther .selfTest
  | .heaterOff => Config.settleOther .heaterOff
  | .serialId => Config.settleOther .serialId

/-- The byte count of the read after a command: the 6 bytes of a dual-measurement frame after a measurement (R105);
after any other command the spec states none, and the count is an open constant (DESIGN CHOICE, log entry 19). -/
def readByteCount : Config.Command → Nat
  | .measureRaw => Config.frameBytes
  | .init => Config.readBytesOther .init
  | .softReset => Config.readBytesOther .softReset
  | .selfTest => Config.readBytesOther .selfTest
  | .heaterOff => Config.readBytesOther .heaterOff
  | .serialId => Config.readBytesOther .serialId

/-- The two bus calls the host consumes (R101): `writeCommand(address, registerMarker, byteCount, payload)` and
`readResponse(address, registerMarker, byteCount, buffer)`. -/
inductive BusCall where
  | writeCommand (address registerMarker byteCount : Nat) (payload : Byte × Byte)
  | readResponse (address registerMarker byteCount : Nat)
deriving DecidableEq, Repr

/-- The write of a command: its 2-byte sequence (R101). -/
def commandWrite (c : Config.Command) : BusCall :=
  .writeCommand Config.busAddress Config.registerMarker 2 (Config.commandBytes c)

/-- The read after a command (R101, R105). -/
def responseRead (c : Config.Command) : BusCall :=
  .readResponse Config.busAddress Config.registerMarker (readByteCount c)

/-! ## The host's state -/

/-- The host's states (R102). A delay or a period counts down in time units (log entry 14). -/
inductive PollPhase where
  | idle
  | commandSent (c : Config.Command)
  /-- The response read is not done yet; `delay` is what is left of the settle delay. -/
  | awaitingResponse (c : Config.Command) (delay : Nat)
  /-- The transfer failed, the host has issued its one request with the failure (R105, "may"), and waits for the tags.
  R102 has no name for this wait (DESIGN CHOICE, log entry 15). -/
  | transferFailed
  | frameReceived
  /-- Both groups VALID; `wait` is what is left of the inter-cycle period (R106). -/
  | decoded (wait : Nat)
  /-- At least one group CHECKSUM_ERROR; the Booleans say which group mismatched (R105). -/
  | checksumMismatch (group1 group2 : Bool) (wait : Nat)
deriving DecidableEq, Repr

/-- The host: its state, the telemetry it has published (`none`: never), and the request that its last transition
issued, if it issued one. -/
structure Poller where
  phase : PollPhase
  telemetry1 : Option Data
  telemetry2 : Option Data
  issued : Option Instr
deriving DecidableEq, Repr

/-- What reaches the host from its bus and its clock. `proceed` is the next moment, for a transition that waits for
nothing. The host's own choices are part of the event: the command it writes, and whether it issues a request after a
transfer that failed (R105, "may"; 95_test_vectors.md P5). -/
inductive BusEvent where
  | writeDone (c : Config.Command) (success issueAnyway : Bool)
  | proceed
  | timeUnit
  | readDone (success : Bool) (bytes : List Byte) (issueAnyway : Bool)
deriving DecidableEq, Repr

/-- What the host sees: an event of its bus or clock, or the core's response. -/
inductive PollEvent where
  | bus (e : BusEvent)
  | response (r : Response)
deriving DecidableEq, Repr

/-- The FRAME_VALIDATE request of R105: `ok = 1` iff both bus calls succeeded, `count` the number of bytes returned
saturated at 255, the returned bytes in order and then zeros. -/
def frameRequest (writeOk readOk : Bool) (bytes : List Byte) : Instr :=
  .frameValidate (BitVec.ofBool (writeOk && readOk)) (saturatedCount bytes.length) (frameOfBytes bytes)

/-! ## Transitions -/

/-- Go to a state, issuing nothing. -/
def Poller.goto (p : Poller) (phase : PollPhase) : Poller := { p with phase := phase, issued := none }

/-- Go to a state, issuing a request. The request is issued by this one transition only (R105). -/
def Poller.issue (p : Poller) (phase : PollPhase) (i : Instr) : Poller := { p with phase := phase, issued := some i }

/-- An event that no rule gives a meaning in the state the host is in: nothing changes and nothing is issued (log entry
15). -/
def Poller.stay (p : Poller) : Poller := { p with issued := none }

/-- The cycle aborts: stale telemetry is kept, nothing is retried within the cycle (R103, R106). R106 says "next
scheduled cycle" and gives no time for it after an abort; that the host is idle at once, and may write again whenever
the next event says so, is the model's choice (DESIGN CHOICE, log entry 18). -/
def Poller.abort (p : Poller) : Poller := p.goto .idle

/-- A group tagged VALID is published (R105). A group tagged otherwise keeps the stale value: for TRANSPORT_ERROR that
is R106; for CHECKSUM_ERROR the rules leave the value to the consumer, and keeping the stale one is the model's choice
(DESIGN CHOICE, log entry 15). -/
def publishGroup (t : Tag) (v : Data) (stale : Option Data) : Option Data :=
  match t with
  | .valid => some v
  | .checksumError => stale
  | .transportError => stale

/-- The tags of a received frame decide the next state (R105). A tag value 11 is never produced, and the host gives it
no meaning (93_implementation_defined.md U2). -/
def Poller.readResponse (p : Poller) (r : Response) : Poller :=
  match Tag.ofBits r.rspTag1, Tag.ofBits r.rspTag2 with
  | some t1, some t2 =>
    if t1 = .transportError ∨ t2 = .transportError then p.abort
    else
      { phase :=
          if t1 = .valid ∧ t2 = .valid then .decoded Config.cyclePeriod
          else .checksumMismatch (t1 = .checksumError) (t2 = .checksumError) Config.cyclePeriod
        telemetry1 := publishGroup t1 r.rspVal1 p.telemetry1
        telemetry2 := publishGroup t2 r.rspVal2 p.telemetry2
        issued := none }
  | _, _ => p.stay

/-- The tags after a failed transfer: the request gets TRANSPORT_ERROR on both groups, and the cycle aborts (R105). No
other tags can come, and the host gives them no meaning (log entry 15). -/
def Poller.readFailure (p : Poller) (r : Response) : Poller :=
  if Tag.ofBits r.rspTag1 = some .transportError ∧ Tag.ofBits r.rspTag2 = some .transportError then p.abort
  else p.stay

/-- One transition of the read cycle (R102-R106). The outcome of the command write is taken in `idle`: success leads to
`commandSent`, failure ends the cycle from `idle`, and the host leaves `commandSent` at the next moment. R103, R104 and
95_test_vectors.md P5 do not agree on which state the outcome is taken in (DESIGN CHOICE, log entry 21). After a failed
write no read is made, so the request carries count 0 and zero bytes (DESIGN CHOICE, log entry 23). When nothing is left
of a settle delay or a period the host may go on, at an event of its own, and may also wait longer (DESIGN CHOICE, log
entry 24). -/
def Poller.next (p : Poller) (e : PollEvent) : Poller :=
  match p.phase, e with
  | .idle, .bus (.writeDone c true _) => p.goto (.commandSent c)
  | .idle, .bus (.writeDone _ false issueAnyway) =>
    if issueAnyway then p.issue .transferFailed (frameRequest false false []) else p.abort
  | .commandSent c, .bus .proceed => p.goto (.awaitingResponse c (settleDelay c))
  | .awaitingResponse c (d + 1), .bus .timeUnit => p.goto (.awaitingResponse c d)
  | .awaitingResponse _ 0, .bus (.readDone success bytes issueAnyway) =>
    if success = true ∧ bytes.length = Config.frameBytes then
      p.issue .frameReceived (frameRequest true success bytes)
    else if issueAnyway then p.issue .transferFailed (frameRequest true success bytes)
    else p.abort
  | .transferFailed, .response r => p.readFailure r
  | .frameReceived, .response r => p.readResponse r
  | .decoded (n + 1), .bus .timeUnit => p.goto (.decoded n)
  | .decoded 0, .bus .proceed => p.goto .idle
  | .checksumMismatch a b (n + 1), .bus .timeUnit => p.goto (.checksumMismatch a b n)
  | .checksumMismatch _ _ 0, .bus .proceed => p.goto .idle
  | _, _ => p.stay

/-- The bus call the host may make in its state, `c` being the command it has chosen: a write when idle, the one read
when the settle delay has passed (R103-R105). -/
def Poller.busCall (p : Poller) (c : Config.Command) : Option BusCall :=
  match p.phase with
  | .idle => some (commandWrite c)
  | .awaitingResponse sent 0 => some (responseRead sent)
  | _ => none

/-- The input level by which the host presents the request it has issued. This host never asserts reset, so its cycle
has no re-issue after reset (DESIGN CHOICE, log entry 22). -/
def Poller.hostInput (p : Poller) : HostInput :=
  match p.issued with
  | some i => HostInput.present (encode i)
  | none => HostInput.idle

end Sys2Proof.Machine
end

