-- ==== Sys2Proof/Machine/Launch.lean ====
section
/-! DEFINITION. The host's duties as named launch premises (00_scope.md R13), and the core driven by the host's read
cycle. The form in which the duties are stated is the model's choice (DESIGN CHOICE, log entry 20). -/

namespace Sys2Proof.Machine

/-! ## Duties towards the core -/

/-- The host never issues the reserved op (30_encoding.md R52, 60_exceptions.md R107). -/
def HostInput.conforming (i : HostInput) : Bool :=
  match i.request with
  | none => true
  | some w => (decode w).wellFormed

/-- Every input still to come is one a conforming host drives. -/
def State.hostConforms (s : State) : Bool := s.inputs.all HostInput.conforming

/-- A request discarded by reset is issued again after it (70_reset_and_hazards.md R108): its word is presented at some
later input (log entry 20). -/
def reissuedAfterReset : List HostInput → Bool
  | [] => true
  | i :: rest =>
    (match i.reset, i.request with
      | true, some w => rest.contains (HostInput.present w)
      | _, _ => true) && reissuedAfterReset rest

/-- Reset is deasserted before the first request of a launch that begins in reset (70_reset_and_hazards.md R112; read of
the inputs before the first one without reset, log entry 20). -/
def resetReleasedFirst (inputs : List HostInput) : Bool :=
  (inputs.takeWhile fun i => i.reset).all fun i => i.request.isNone

/-! ## Duties towards the sensor -/

/-- One bus transfer: the command, whether its write succeeded, the time units waited after it, whether the read
succeeded, and the bytes it returned (60_exceptions.md R101-R105). -/
structure Transfer where
  command : Config.Command
  writeOk : Bool
  waited : Nat
  readOk : Bool
  bytes : List Byte
deriving DecidableEq, Repr

/-- After a successful write the settle delay was respected (70_reset_and_hazards.md R116). -/
def Transfer.settled (x : Transfer) : Bool := !x.writeOk || decide (settleDelay x.command ≤ x.waited)

/-- The request a truthful host builds from a transfer (60_exceptions.md R105). -/
def Transfer.request (x : Transfer) : Instr := frameRequest x.writeOk x.readOk x.bytes

/-- `ok`, `count` and the bytes of each frame request tell its transfer truthfully (60_exceptions.md R105, R107). The
transfers stand in the order of the frame requests; a request discarded by reset tells nothing until it is issued
again, and the CRC8 requests tell of no transfer. -/
def truthful : List HostInput → List Transfer → Bool
  | [], _ => true
  | i :: rest, xs =>
    match i.reset, i.request.map decode, xs with
    | false, some (.frameValidate ok count b), x :: xs =>
      decide (Instr.frameValidate ok count b = x.request) && truthful rest xs
    | false, some (.frameValidate _ _ _), [] => false
    | _, _, xs => truthful rest xs

/-- The launch premises together: what a host "must" do (00_scope.md R13), for the transfers its frame requests tell
of. That one host alone issues requests, one at a time (60_exceptions.md R99, R107; 70_reset_and_hazards.md R117), is
the shape of `State.inputs`: one list, one request per step. -/
structure LaunchPremises (s : State) (transfers : List Transfer) : Prop where
  noReservedOp : s.hostConforms = true
  resetReleasedFirst : resetReleasedFirst s.inputs = true
  reissuedAfterReset : reissuedAfterReset s.inputs = true
  truthful : truthful s.inputs transfers = true
  settled : transfers.all Transfer.settled = true

/-! ## The read cycle as a source of inputs -/

/-- The input levels the host drives, one per event. -/
def Poller.inputs : Poller → List PollEvent → List HostInput
  | _, [] => []
  | p, e :: es => (p.next e).hostInput :: Poller.inputs (p.next e) es

/-- The transfer an event ends by a request, if it does: the settle delay has then been waited in full. -/
def Poller.transfer (p : Poller) (e : PollEvent) : Option Transfer :=
  match p.phase, e with
  | .idle, .bus (.writeDone c false true) =>
    some { command := c, writeOk := false, waited := 0, readOk := false, bytes := [] }
  | .awaitingResponse c 0, .bus (.readDone success bytes issueAnyway) =>
    if (success = true ∧ bytes.length = Config.frameBytes) ∨ issueAnyway = true then
      some { command := c, writeOk := true, waited := settleDelay c, readOk := success, bytes := bytes }
    else none
  | _, _ => none

/-- The transfers the host's requests tell of, in order. -/
def Poller.transfers : Poller → List PollEvent → List Transfer
  | _, [] => []
  | p, e :: es => (p.transfer e).toList ++ Poller.transfers (p.next e) es

/-! ## Host and core together (10_state.md R26: the two agents) -/

/-- The host and the core it drives. -/
structure Bench where
  host : Poller
  core : State
deriving DecidableEq, Repr

/-- The host reads the response to the request it has just issued (R105). -/
def Poller.readAnswer (p : Poller) (s : State) : Poller :=
  match p.issued, s.lastResponse with
  | some _, some r => p.next (.response r)
  | _, _ => p

/-- One event: the host takes it and presents what it issues, the core takes one step, the host reads the answer (log
entry 20). No event asserts reset (log entry 22). -/
def Bench.next (b : Bench) (e : BusEvent) : Host.Outcome Bench Fault Refusal :=
  let p := b.host.next (.bus e)
  match step { b.core with inputs := p.hostInput :: b.core.inputs } with
  | .next s => .next { host := p.readAnswer s, core := s }
  | .fault r => .fault r
  | .refused r => .refused r

end Sys2Proof.Machine
end

