-- ==== Sys2Proof/Safety.lean ====
section
/-! DEFINITION. What a safe run is, and the invariants claims are about (60_exceptions.md R92, R93). The host's duties,
which claims take as premises (00_scope.md R13), are in Machine/Launch.lean. -/

namespace Sys2Proof.Machine

/-- The response of a decoded request; the reserved op has none (30_encoding.md R52). -/
def respond : Instr → Option Response
  | .crc8Compute data => some (crc8ComputeResponse data)
  | .crc8Verify data rxCrc => some (crc8VerifyResponse data rxCrc)
  | .frameValidate ok count b => some (frameResponse ok count b)
  | .reservedOp3 => none

/-- The pair a request adds to the history, if it adds one (10_state.md R28). -/
def answerOf (w : Word) : Option (Word × Response) := (respond (decode w)).map fun r => (w, r)

/-- A run is safe while no request has been refused (60_exceptions.md R92). -/
def State.safe (s : State) : Bool := !s.refused

/-- Every recorded response is the one its request word determines (10_state.md R25, R28). -/
def State.historyFaithful (s : State) : Prop := ∀ e ∈ s.history, respond (decode e.1) = some e.2

/-- Both tags carry TRANSPORT_ERROR or neither does, and no tag is 11 (60_exceptions.md R93, 30_encoding.md R56). -/
def Response.tagsConsistent (r : Response) : Prop :=
  r.rspTag1 ≠ 0b11#2 ∧ r.rspTag2 ≠ 0b11#2 ∧ (r.rspTag1 = 0b10#2 ↔ r.rspTag2 = 0b10#2)

/-- Every recorded response has consistent tags. -/
def State.tagsConsistent (s : State) : Prop := ∀ e ∈ s.history, e.2.tagsConsistent

end Sys2Proof.Machine
end

