-- ==== Sys2Proof/Certificates/Slice0/Obligations.lean ====
section
/-! DEFINITION. The statements for the provers. `w.extractLsb' lo n` is the spec's field `w[lo+n-1 : lo]`. -/

open Sys2Proof Sys2Proof.Machine

/-! ## Reset and the step relation -/

/-- 10_state.md R28, 70_reset_and_hazards.md R108-R110: what reset leaves. -/
def Obligations.ResetStateIsAnEmptyLaunch : Prop :=
  State.reset.history = [] ∧ State.reset.refused = false ∧ State.reset.lastResponse = none

/-- After 70_reset_and_hazards.md R108: while reset is asserted no request is accepted, an unanswered request (`lost`)
gets no response, and a new launch starts. That reset is a level sampled by a step is log entry 3 (DEDUCED), and that
the step consumes that one input is the model's choice (log entry 1, DESIGN CHOICE). -/
def Obligations.ResetInputStartsANewLaunch : Prop :=
  ∀ (s : State) (lost : Option Word) (rest : List HostInput),
    s.inputs = HostInput.resetAsserted lost :: rest →
      s.presented = none ∧ step s = .next { history := [], refused := false, inputs := rest }

/-- After 70_reset_and_hazards.md R110: until a request is answered there is no response, however many steps pass in
which the host presents nothing or asserts reset. That a step with no request exists, completes and consumes its input
is the model's choice (log entry 1, DESIGN CHOICE), and so is the reading of reset as a level sampled by a step (log
entry 3, DEDUCED). -/
def Obligations.NoResponseBeforeTheFirstAnswer : Prop :=
  ∀ (ins rest : List HostInput) (s : State),
    s.history = [] → s.inputs = ins ++ rest → (∀ i ∈ ins, i.reset = true ∨ i.request = none) →
      ∃ t, Sys2Proof.core.run ins.length s = .next t ∧ t.history = [] ∧ t.lastResponse = none ∧ t.inputs = rest

/-- A step decodes the presented word and runs the decoded request (10_state.md R28). That it then moves to the next
inputs is the model's choice (log entry 1, DESIGN CHOICE): R28 has no list of inputs. -/
def Obligations.StepRunsTheDecodedRequest : Prop :=
  ∀ (s : State) (w : Word) (rest : List HostInput), s.inputs = HostInput.present w :: rest →
    ∃ t, exec (decode w) s = .next t ∧ t.inputs = s.inputs ∧ step s = .next { t with inputs := rest }

/-- The model's choice (log entry 1), from 10_state.md R26: with no request and no reset a step changes only the
inputs. -/
def Obligations.IdleStepChangesOnlyTheInputs : Prop :=
  ∀ s : State, s.presented = none → s.resetAsserted = false →
    step s = .next { s with inputs := s.inputs.tail }

/-- After 60_exceptions.md R89, no request makes the core stop. That the reserved op answers a next state and no refusal
outcome is log entry 4 (DEDUCED from 10_state.md R28, 60_exceptions.md R92 and 95_test_vectors.md P4); that a step, or
a meaning, with no request presented completes is log entries 1 and 6 (DESIGN CHOICE). -/
def Obligations.NoRequestStopsTheCore : Prop :=
  (∀ (i : Instr) (s : State), ∃ t, exec i s = .next t) ∧ (∀ s : State, ∃ t, step s = .next t)

/-- After 10_state.md R28, the step relation: a refused word sets the mark and appends nothing; any other word appends
itself with a response that the word alone determines. That either step consumes the presented input is the model's
choice (log entry 1, DESIGN CHOICE): R28 has no list of inputs. -/
def Obligations.StepAppendsThePairOrSetsTheMark : Prop :=
  (State.reset.history = [] ∧ State.reset.refused = false) ∧
  ∀ (s : State) (w : Word) (rest : List HostInput), s.inputs = HostInput.present w :: rest →
    (∀ reason, decodeRequest w = .error reason →
      step s = .next { history := s.history, refused := true, inputs := rest }) ∧
    (∀ i, decodeRequest w = .ok i → ∃ r, respond i = some r ∧
      step s = .next { history := s.history ++ [(w, r)], refused := s.refused, inputs := rest })

/-! ## Each request completes, with its result -/

/-- 40_crc8.md R66: the result of CRC8_COMPUTE; every other port is 0. -/
def Obligations.Crc8ComputeGivesTheCrc : Prop :=
  ∀ (data : Data) (s : State) (w : Word), s.presented = some w →
    exec (.crc8Compute data) s = .next { s with
      history := s.history ++ [(w,
        { rspCrc := crc8 data, rspMatch := 0, rspTag1 := 0, rspVal1 := 0, rspCalc1 := 0,
          rspTag2 := 0, rspVal2 := 0, rspCalc2 := 0 })] }

/-- 40_crc8.md R67: the result of CRC8_VERIFY, match and mismatch. -/
def Obligations.Crc8VerifyGivesMatchAndCrc : Prop :=
  ∀ (data : Data) (rxCrc : Byte) (s : State) (w : Word), s.presented = some w →
    exec (.crc8Verify data rxCrc) s = .next { s with
      history := s.history ++ [(w,
        { rspCrc := crc8 data, rspMatch := if crc8 data = rxCrc then 1 else 0,
          rspTag1 := 0, rspVal1 := 0, rspCalc1 := 0, rspTag2 := 0, rspVal2 := 0, rspCalc2 := 0 })] }

/-- 41_frame_validator.md R80: the result of FRAME_VALIDATE on a frame that was received. -/
def Obligations.FrameValidateChecksEachGroup : Prop :=
  ∀ (b : Frame) (s : State) (w : Word), s.presented = some w →
    exec (.frameValidate 1 6 b) s = .next { s with
      history := s.history ++ [(w,
        { rspCrc := 0, rspMatch := 0,
          rspTag1 := if crc8 (b.b0 ++ b.b1) = b.b2 then 0b00 else 0b01,
          rspVal1 := b.b0 ++ b.b1, rspCalc1 := crc8 (b.b0 ++ b.b1),
          rspTag2 := if crc8 (b.b3 ++ b.b4) = b.b5 then 0b00 else 0b01,
          rspVal2 := b.b3 ++ b.b4, rspCalc2 := crc8 (b.b3 ++ b.b4) })] }

/-- 41_frame_validator.md R79, R83, R88: `ok = 0` or any count other than 6, below or above, gives TRANSPORT_ERROR and
zeros on both groups. -/
def Obligations.FrameValidateReportsTransportFailure : Prop :=
  ∀ (ok : Bit) (count : Byte) (b : Frame) (s : State) (w : Word), s.presented = some w →
    (ok = 0 ∨ count ≠ 6) →
    exec (.frameValidate ok count b) s = .next { s with
      history := s.history ++ [(w,
        { rspCrc := 0, rspMatch := 0, rspTag1 := 0b10, rspVal1 := 0, rspCalc1 := 0,
          rspTag2 := 0b10, rspVal2 := 0, rspCalc2 := 0 })] }

/-- 30_encoding.md R52, 10_state.md R28: the reserved op sets the mark and changes nothing else. -/
def Obligations.ReservedOpSetsTheRefusedMark : Prop :=
  ∀ s : State, exec .reservedOp3 s = .next { s with refused := true }

/-! ## From the bits of the request word to the response -/

/-- 40_crc8.md R66, encoding and pseudocode: a step on any word with op 00. That the step consumes the presented input is
the model's choice (log entry 1, DESIGN CHOICE). -/
def Obligations.ComputeWordIsAnswered : Prop :=
  ∀ (s : State) (w : Word) (rest : List HostInput), s.inputs = HostInput.present w :: rest →
    w.extractLsb' 62 2 = 0b00#2 →
    step s = .next
      { history := s.history ++ [(w,
          { rspCrc := crc8 (w.extractLsb' 8 16), rspMatch := 0, rspTag1 := 0, rspVal1 := 0, rspCalc1 := 0,
            rspTag2 := 0, rspVal2 := 0, rspCalc2 := 0 })],
        refused := s.refused, inputs := rest }

/-- 40_crc8.md R67, encoding and pseudocode: a step on any word with op 01. That the step consumes the presented input is
the model's choice (log entry 1, DESIGN CHOICE). -/
def Obligations.VerifyWordIsAnswered : Prop :=
  ∀ (s : State) (w : Word) (rest : List HostInput), s.inputs = HostInput.present w :: rest →
    w.extractLsb' 62 2 = 0b01#2 →
    step s = .next
      { history := s.history ++ [(w,
          { rspCrc := crc8 (w.extractLsb' 8 16),
            rspMatch := if crc8 (w.extractLsb' 8 16) = w.extractLsb' 0 8 then 1 else 0,
            rspTag1 := 0, rspVal1 := 0, rspCalc1 := 0, rspTag2 := 0, rspVal2 := 0, rspCalc2 := 0 })],
        refused := s.refused, inputs := rest }

/-- 41_frame_validator.md R80, encoding and pseudocode: a step on any word with op 10. The groups are the payload's
two 24-bit halves, each with its value in the upper 16 bits. That the step consumes the presented input is the model's
choice (log entry 1, DESIGN CHOICE). -/
def Obligations.FrameWordIsAnswered : Prop :=
  ∀ (s : State) (w : Word) (rest : List HostInput), s.inputs = HostInput.present w :: rest →
    w.extractLsb' 62 2 = 0b10#2 →
    step s = .next
      { history := s.history ++ [(w,
          if w.extractLsb' 61 1 = 0 ∨ w.extractLsb' 48 8 ≠ 6 then
            { rspCrc := 0, rspMatch := 0, rspTag1 := 0b10, rspVal1 := 0, rspCalc1 := 0,
              rspTag2 := 0b10, rspVal2 := 0, rspCalc2 := 0 }
          else
            { rspCrc := 0, rspMatch := 0,
              rspTag1 := if crc8 (w.extractLsb' 32 16) = w.extractLsb' 24 8 then 0b00 else 0b01,
              rspVal1 := w.extractLsb' 32 16, rspCalc1 := crc8 (w.extractLsb' 32 16),
              rspTag2 := if crc8 (w.extractLsb' 8 16) = w.extractLsb' 0 8 then 0b00 else 0b01,
              rspVal2 := w.extractLsb' 8 16, rspCalc2 := crc8 (w.extractLsb' 8 16) })],
        refused := s.refused, inputs := rest }

/-- After 60_exceptions.md R92 and 30_encoding.md R52: only op 11 is refused; such a word gets no response and sets the
mark; no step without reset clears the mark. R92 says "nothing clears that mark"; the exception of reset is
70_reset_and_hazards.md R108, and that the two are read together so is log entry 17 (DEDUCED). That the step on such a
word consumes the presented input is the model's choice (log entry 1, DESIGN CHOICE). -/
def Obligations.OnlyTheReservedOpIsRefused : Prop :=
  (∀ w : Word, decodeRequest w = .error .reservedOp ↔ w.extractLsb' 62 2 = 0b11#2) ∧
  (∀ (s : State) (w : Word) (rest : List HostInput), s.inputs = HostInput.present w :: rest →
    w.extractLsb' 62 2 = 0b11#2 →
    step s = .next { history := s.history, refused := true, inputs := rest }) ∧
  (∀ s t : State, s.resetAsserted = false → s.refused = true → step s = .next t → t.refused = true)

/-! ## What a request leaves unchanged -/

/-- The frame of the three answered requests: the mark and the inputs stay, and the history keeps every old pair and
gains exactly the pair of the presented word. The last clause is the model's choice (log entry 6). -/
def Obligations.AnsweredRequestsChangeOnlyTheHistory : Prop :=
  ∀ (i : Instr) (s t : State), i ≠ .reservedOp3 → exec i s = .next t →
    t.refused = s.refused ∧ t.inputs = s.inputs ∧
    (∀ w, s.presented = some w → ∃ r, respond i = some r ∧ t.history = s.history ++ [(w, r)]) ∧
    (s.presented = none → t = s)

/-- The frame of the reserved op: history and inputs stay. -/
def Obligations.RefusedRequestChangesOnlyTheMark : Prop :=
  ∀ s t : State, exec .reservedOp3 s = .next t →
    t.history = s.history ∧ t.inputs = s.inputs ∧ t.refused = true ∧ t.lastResponse = s.lastResponse

/-- A step without reset keeps every recorded pair and adds at most one; the mark is set exactly by op 11 (10_state.md
R28, 60_exceptions.md R92). That every such step, the idle one included, exists and moves to the rest of the inputs is
the model's choice (log entry 1, DESIGN CHOICE). -/
def Obligations.StepKeepsThePastAndMarksRefusals : Prop :=
  ∀ s t : State, s.resetAsserted = false → step s = .next t →
    t.inputs = s.inputs.tail ∧
    t.history = s.history ++ (s.presented.bind answerOf).toList ∧
    (t.refused = true ↔ s.refused = true ∨ ∃ w, s.presented = some w ∧ w.extractLsb' 62 2 = 0b11#2)

/-! ## Encoding -/

/-- Decoding the encoding of any request gives it back, every operand at every value. -/
def Obligations.DecodeInvertsEncode : Prop := ∀ i : Instr, decode (encode i) = i

/-- Encoding a decoded word keeps the bits its row uses and clears the ignored ones. -/
def Obligations.EncodeOfDecodeClearsIgnoredBits : Prop :=
  ∀ w : Word, encode (decode w) = w &&& (decode w).row.used

/-- 30_encoding.md R51: two words that differ only in bits the first one's operation does not use decode alike, are
legal alike, and get equal responses. -/
def Obligations.IgnoredBitsHaveNoEffect : Prop :=
  ∀ w v : Word, (w ^^^ v) &&& (decode w).row.used = 0 →
    decode v = decode w ∧ decodeRequest v = decodeRequest w ∧
    (answerOf v).map Prod.snd = (answerOf w).map Prod.snd

/-- 30_encoding.md R61: the decoder, with the indices of the full word. -/
def Obligations.DecoderReadsTheStatedFields : Prop :=
  ∀ w : Word,
    (w.extractLsb' 62 2 = 0b00#2 → decodeRequest w = .ok (.crc8Compute (w.extractLsb' 8 16))) ∧
    (w.extractLsb' 62 2 = 0b01#2 → decodeRequest w = .ok (.crc8Verify (w.extractLsb' 8 16) (w.extractLsb' 0 8))) ∧
    (w.extractLsb' 62 2 = 0b10#2 → decodeRequest w = .ok (.frameValidate (w.extractLsb' 61 1) (w.extractLsb' 48 8)
      { b0 := w.extractLsb' 40 8, b1 := w.extractLsb' 32 8, b2 := w.extractLsb' 24 8,
        b3 := w.extractLsb' 16 8, b4 := w.extractLsb' 8 8, b5 := w.extractLsb' 0 8 })) ∧
    (w.extractLsb' 62 2 = 0b11#2 → decodeRequest w = .error .reservedOp)

/-- The rows of the opcode table overlap nowhere, leave no word out, and the decoder gives the row's request. -/
def Obligations.ExactlyOneTableRowAcceptsEachWord : Prop :=
  ∀ w : Word, opcodeTable.filter (fun r => r.accepts w) = [(decode w).row]

/-- 30_encoding.md R53: every word with op ≠ 11 is a legal request with a response. -/
def Obligations.EveryWordButOpThreeIsLegal : Prop :=
  ∀ w : Word, w.extractLsb' 62 2 ≠ 0b11#2 →
    decodeRequest w = .ok (decode w) ∧ (decode w).wellFormed = true ∧ ∃ r, answerOf w = some (w, r)

/-- Words of 95_test_vectors.md, written out from 30_encoding.md R44, decode to the requests they stand for. -/
def Obligations.SpecWordsDecode : Prop :=
  decode 0x3FFFFFFFFFBEEFFF = .crc8Compute 0xBEEF ∧
  decode 0x4000000000BEEF92 = .crc8Verify 0xBEEF 0x92 ∧
  decode 0xBF06BEEF92123437 =
    .frameValidate 1 6 { b0 := 0xBE, b1 := 0xEF, b2 := 0x92, b3 := 0x12, b4 := 0x34, b5 := 0x37 } ∧
  decode 0xC000000000123400 = .reservedOp3

/-! ## The response -/

/-- 30_encoding.md R55: every port the operation does not write is 0. -/
def Obligations.UnwrittenPortsAreZero : Prop :=
  ∀ (i : Instr) (r : Response) (p : Port), respond i = some r → p ∉ portsWritten i → r.port p = 0

/-- 30_encoding.md R62: where the packed view holds each port, and its shape for a frame whose groups decode. -/
def Obligations.PackedViewHoldsEachPort : Prop :=
  (∀ r : Response,
    r.packed.extractLsb' 56 8 = r.rspCrc ∧ r.packed.extractLsb' 55 1 = r.rspMatch ∧
    r.packed.extractLsb' 54 1 = 0#1 ∧ r.packed.extractLsb' 52 2 = r.rspTag1 ∧
    r.packed.extractLsb' 50 2 = r.rspTag2 ∧ r.packed.extractLsb' 48 2 = 0#2 ∧
    r.packed.extractLsb' 32 16 = r.rspVal1 ∧ r.packed.extractLsb' 24 8 = r.rspCalc1 ∧
    r.packed.extractLsb' 8 16 = r.rspVal2 ∧ r.packed.extractLsb' 0 8 = r.rspCalc2) ∧
  (∀ b : Frame, (frameResponse 1 6 b).packed.extractLsb' 0 48 =
    Frame.payload { b with b2 := crc8 (b.b0 ++ b.b1), b5 := crc8 (b.b3 ++ b.b4) })

/-! ## The CRC -/

/-- 40_crc8.md R63: `step8` is eight iterations of the shift and XOR; dropping the bit shifted out before the XOR or
after it gives the same result. -/
def Obligations.Step8IsEightShiftXors : Prop :=
  ∀ a : Byte,
    step8 a = (fun x : Byte => if x.msb = true then (x <<< 1) ^^^ 0x31 else x <<< 1)^[8] a ∧
    (((a.setWidth 9 <<< 1) ^^^ 0x31).setWidth 8 : Byte) = (a <<< 1) ^^^ 0x31

/-- 40_crc8.md R64: the six steps, high byte first, no inversion at the end. -/
def Obligations.ReferenceCrcFollowsTheSixSteps : Prop :=
  ∀ d : Data, crc8 d = step8 (step8 (0xFF ^^^ d.extractLsb' 8 8) ^^^ d.extractLsb' 0 8)

/-- 40_crc8.md R68, R71: the 16 by 16 table of R69 holds `step8`, and the table form is `crc8` on all 65536 inputs. -/
def Obligations.TableFormEqualsReference : Prop :=
  (∀ i : Byte, tableT i = step8 i) ∧ (∀ d : Data, crc8Table d = crc8 d)

/-- 40_crc8.md R70: `step8` is linear; the two nibble tables are slices of `T`, rebuild it, and give `crc8` too. -/
def Obligations.NibbleFormEqualsReference : Prop :=
  (∀ a b : Byte, step8 (a ^^^ b) = step8 a ^^^ step8 b) ∧
  (∀ n : BitVec 4, nibbleTableHigh.entry n.toNat = tableT (n.setWidth 8 <<< 4) ∧
    nibbleTableLow.entry n.toNat = tableT (n.setWidth 8)) ∧
  (∀ i : Byte, nibbleT i = tableT i) ∧ (∀ d : Data, crc8Nibble d = crc8 d)

/-- 40_crc8.md R72: the affine law. -/
def Obligations.CrcIsAffine : Prop :=
  (∀ a b : Data, crc8 (a ^^^ b) = crc8 a ^^^ crc8 b ^^^ crc8 0x0000) ∧ crc8 0x0000 = 0x81 ∧
  (∀ a b : Data, crc8 (a ^^^ b) ^^^ 0x81 = (crc8 a ^^^ 0x81) ^^^ (crc8 b ^^^ 0x81))

/-- 40_crc8.md R73: the residue over a group is zero exactly for the correct checksum byte, so it decides
`rsp_match`. -/
def Obligations.ResidueIsZeroExactlyOnAMatch : Prop :=
  ∀ (d : Data) (rx : Byte),
    crcResidue [d.extractLsb' 8 8, d.extractLsb' 0 8, crc8 d] = 0 ∧
    (crcResidue [d.extractLsb' 8 8, d.extractLsb' 0 8, rx] = 0 ↔ (crc8VerifyResponse d rx).rspMatch = 1)

/-- 40_crc8.md R74(a): each of the 256 result values is the CRC of exactly 256 data words. -/
def Obligations.EachResultHas256DataWords : Prop :=
  ∀ c : Byte, ((List.finRange 65536).filter fun d => crc8 (BitVec.ofFin d) = c).length = 256

/-- 40_crc8.md R74(b), (c): a change of 1, 2 or 3 bits, or of an odd number of bits, changes the CRC, so CRC8_VERIFY
with the old CRC answers a mismatch. -/
def Obligations.SmallAndOddErrorsAreDetected : Prop :=
  ∀ d e : Data, (bitWeight e = 1 ∨ bitWeight e = 2 ∨ bitWeight e = 3 ∨ bitWeight e % 2 = 1) →
    crc8 (d ^^^ e) ≠ crc8 d ∧ (crc8VerifyResponse (d ^^^ e) (crc8 d)).rspMatch = 0

/-- 40_crc8.md R74(d): for every data word, 19 error patterns of weight 4 go undetected. -/
def Obligations.NineteenWeightFourErrorsEscape : Prop :=
  (∀ d : Data, ((List.finRange 65536).filter fun e =>
    bitWeight (BitVec.ofFin e) = 4 ∧ crc8 (d ^^^ BitVec.ofFin e) = crc8 d).length = 19) ∧
  crc8 0x0131 = crc8 0x0000

/-- 00_scope.md R2: `crc8` is the CRC of the parameter set `width=8 poly=0x31 init=0xFF refin=false refout=false
xorout=0x00`. What the parameters mean is PRESUMED (log entry 13). -/
def Obligations.CrcIsTheParameterSet : Prop :=
  ∀ d : Data, crc8 d = crcOfParameters 0x31 0xFF false false 0x00 [d.extractLsb' 8 8, d.extractLsb' 0 8]

/-- 40_crc8.md R66, corner cases; 90_conflicts.md C1: 0x81, not 0xFF, is the CRC of 0x0000. -/
def Obligations.GoldenCrcValues : Prop :=
  crc8 0x0000 = 0x81 ∧ crc8 0xFFFF = 0xAC ∧ crc8 0xFF00 = 0x00 ∧ crc8 0x0050 = 0xFF ∧ crc8 0xBEEF = 0x92 ∧
  crc8 0x1234 = 0x37 ∧ crc8 0x8000 = 0xA2

/-- 40_crc8.md R66, corner case: 0xFF00 is the only input that leaves an all-zero accumulator at both bytes. -/
def Obligations.OnlyOneInputClearsTheAccumulator : Prop :=
  ∀ d : Data, (0xFF#8 ^^^ d.extractLsb' 8 8 = 0 ∧ step8 (0xFF#8 ^^^ d.extractLsb' 8 8) ^^^ d.extractLsb' 0 8 = 0) ↔
    d = 0xFF00

/-! ## The frame validator -/

/-- 41_frame_validator.md R77, R78: the measurement of each group is `(high << 8) | low` of its first two bytes. -/
def Obligations.MeasurementIsBigEndian : Prop :=
  ∀ b : Frame,
    groupValue (frameGroup b .one) = (b.b0.setWidth 16 <<< 8) ||| b.b1.setWidth 16 ∧
    groupValue (frameGroup b .two) = (b.b3.setWidth 16 <<< 8) ||| b.b4.setWidth 16 ∧
    (frameGroup b .one).rx = b.b2 ∧ (frameGroup b .two).rx = b.b5

/-- 41_frame_validator.md R81: each group's ports depend on its own bytes and the transport condition only. -/
def Obligations.GroupsAreIndependent : Prop :=
  ∀ (ok ok' : Bit) (count count' : Byte) (b b' : Frame), transportFailed ok count = transportFailed ok' count' →
    (b.b0 = b'.b0 → b.b1 = b'.b1 → b.b2 = b'.b2 →
      (frameResponse ok count b).rspTag1 = (frameResponse ok' count' b').rspTag1 ∧
      (frameResponse ok count b).rspVal1 = (frameResponse ok' count' b').rspVal1 ∧
      (frameResponse ok count b).rspCalc1 = (frameResponse ok' count' b').rspCalc1) ∧
    (b.b3 = b'.b3 → b.b4 = b'.b4 → b.b5 = b'.b5 →
      (frameResponse ok count b).rspTag2 = (frameResponse ok' count' b').rspTag2 ∧
      (frameResponse ok count b).rspVal2 = (frameResponse ok' count' b').rspVal2 ∧
      (frameResponse ok count b).rspCalc2 = (frameResponse ok' count' b').rspCalc2)

/-- 41_frame_validator.md R84 and the VALID row of 60_exceptions.md R90: a group is tagged VALID exactly when the frame
was received and its computed CRC equals its checksum byte. -/
def Obligations.ValidMeansTheChecksumMatched : Prop :=
  ∀ (ok : Bit) (count : Byte) (b : Frame),
    ((frameResponse ok count b).rspTag1 = 0b00#2 ↔ ok = 1 ∧ count = 6 ∧ crc8 (b.b0 ++ b.b1) = b.b2) ∧
    ((frameResponse ok count b).rspTag2 = 0b00#2 ↔ ok = 1 ∧ count = 6 ∧ crc8 (b.b3 ++ b.b4) = b.b5)

/-- 41_frame_validator.md R82: on CHECKSUM_ERROR the rebuilt value and its computed CRC are still given. -/
def Obligations.ChecksumErrorKeepsTheValue : Prop :=
  ∀ (ok : Bit) (count : Byte) (b : Frame),
    ((frameResponse ok count b).rspTag1 = 0b01#2 →
      (frameResponse ok count b).rspVal1 = b.b0 ++ b.b1 ∧
      (frameResponse ok count b).rspCalc1 = crc8 (b.b0 ++ b.b1) ∧ crc8 (b.b0 ++ b.b1) ≠ b.b2) ∧
    ((frameResponse ok count b).rspTag2 = 0b01#2 →
      (frameResponse ok count b).rspVal2 = b.b3 ++ b.b4 ∧
      (frameResponse ok count b).rspCalc2 = crc8 (b.b3 ++ b.b4) ∧ crc8 (b.b3 ++ b.b4) ≠ b.b5)

/-- 41_frame_validator.md R86: a group is VALID exactly when CRC8_VERIFY of the same three bytes matches, and the
computed CRCs agree. -/
def Obligations.GroupTagAgreesWithVerify : Prop :=
  ∀ b : Frame,
    ((frameResponse 1 6 b).rspTag1 = Tag.valid.bits ↔ (crc8VerifyResponse (b.b0 ++ b.b1) b.b2).rspMatch = 1) ∧
    ((frameResponse 1 6 b).rspTag2 = Tag.valid.bits ↔ (crc8VerifyResponse (b.b3 ++ b.b4) b.b5).rspMatch = 1) ∧
    (frameResponse 1 6 b).rspCalc1 = (crc8VerifyResponse (b.b0 ++ b.b1) b.b2).rspCrc ∧
    (frameResponse 1 6 b).rspCalc2 = (crc8VerifyResponse (b.b3 ++ b.b4) b.b5).rspCrc

/-- 41_frame_validator.md R85: on a transport failure the frame bytes have no effect; on a received frame no value or
checksum byte can be changed without a visible difference in what the group carries or is compared with. -/
def Obligations.FrameBytesMatterOnlyWhenReceived : Prop :=
  (∀ (ok : Bit) (count : Byte) (b b' : Frame), (ok = 0 ∨ count ≠ 6) →
    frameResponse ok count b = frameResponse ok count b') ∧
  (∀ b b' : Frame, frameResponse 1 6 b = frameResponse 1 6 b' →
    b.b0 = b'.b0 ∧ b.b1 = b'.b1 ∧ b.b3 = b'.b3 ∧ b.b4 = b'.b4 ∧
    (b.b2 = crc8 (b.b0 ++ b.b1) ↔ b'.b2 = crc8 (b.b0 ++ b.b1)) ∧
    (b.b5 = crc8 (b.b3 ++ b.b4) ↔ b'.b5 = crc8 (b.b3 ++ b.b4)))

/-! ## Invariants and whole runs -/

/-- Both invariants hold right after reset. -/
def Obligations.InvariantsHoldAtReset : Prop :=
  State.reset.historyFaithful ∧ State.reset.tagsConsistent

/-- 30_encoding.md R56 and 60_exceptions.md R93, kept by every step: no recorded response carries tag 11, and none
carries TRANSPORT_ERROR on one group only. -/
def Obligations.StepKeepsTagsConsistent : Prop :=
  ∀ s t : State, s.tagsConsistent → step s = .next t → t.tagsConsistent

/-- 10_state.md R25 and R28, kept by every step: each recorded response is the one its own request word determines. -/
def Obligations.StepKeepsHistoryFaithful : Prop :=
  ∀ s t : State, s.historyFaithful → step s = .next t → t.historyFaithful

/-- After 60_exceptions.md R92 and R107: if the host never issues the reserved op, no run from a safe state is ever
refused, and no such run stops. That steps with no request, after the inputs end among them, exist and complete is the
model's choice (log entry 1, DESIGN CHOICE), and so is reset as a level sampled by a step (log entry 3, DEDUCED). -/
def Obligations.ConformingHostIsNeverRefused : Prop :=
  ∀ (n : Nat) (s : State), s.hostConforms = true → s.safe = true →
    ∃ t, Sys2Proof.core.run n s = .next t ∧ t.safe = true ∧ t.hostConforms = true

/-- After 20_memory.md R39 and 10_state.md R24: the responses are the requests, mapped one for one in the order issued,
from any state. That a reserved op adds no response, leaves the mark set and lets the run go on is 10_state.md R28 with
log entry 4 (DEDUCED); that the run consumes exactly the inputs it answered is log entry 1 (DESIGN CHOICE). -/
def Obligations.RunAnswersRequestsInOrder : Prop :=
  ∀ (ws : List Word) (rest : List HostInput) (s : State), s.inputs = ws.map HostInput.present ++ rest →
    Sys2Proof.core.run ws.length s = .next
      { history := s.history ++ ws.filterMap answerOf,
        refused := s.refused || ws.any (fun w => w.extractLsb' 62 2 == 0b11#2),
        inputs := rest }

/-- 10_state.md R25, 70_reset_and_hazards.md R114: what a step records does not depend on earlier requests or on the
refused mark; equal request words get equal responses in any two states. -/
def Obligations.ResponsesIgnoreThePast : Prop :=
  ∀ (s t s' t' : State) (w : Word), s.presented = some w → t.presented = some w →
    step s = .next s' → step t = .next t' →
    ∃ new : List (Word × Response), s'.history = s.history ++ new ∧ t'.history = t.history ++ new

/-! ## The assembler -/

/-- After 30_encoding.md R58 and R59: whatever a line spells is a legal request; the reserved op has no spelling. That
it has none rests on the model's choice to reject `.word`, which 95_test_vectors.md P4 writes (log entry 12, DESIGN
CHOICE). -/
def Obligations.LinesSpellOnlyLegalRequests : Prop :=
  ∀ (line : List Char) (i : Instr), asmLine line = .ok (some i) → i.wellFormed = true

/-- 30_encoding.md R60: `frame.check` with six byte operands is `frame.validate` with `count=6 ok=1` after them. -/
def Obligations.FrameCheckExpandsToFrameValidate : Prop :=
  ∀ c0 c1 c2 c3 c4 c5 : List Char,
    let bytes := [Token.word c0, .comma, .word c1, .comma, .word c2, .comma, .word c3, .comma, .word c4, .comma,
      .word c5]
    asmTokens (.word mnemonicCheck :: bytes) =
      asmTokens (.word mnemonicValidate :: bytes ++
        [.word "count=6".toList, .word "ok=1".toList])

/-! ## The host's read cycle (context, 00_scope.md R5) -/

/-- 60_exceptions.md R105: the host's request gets TRANSPORT_ERROR on both groups exactly when a bus call failed or the
read returned another number of bytes than 6, however many. -/
def Obligations.HostRequestFailsExactlyOnABadTransfer : Prop :=
  ∀ (writeOk readOk : Bool) (bytes : List Byte) (r : Response), respond (frameRequest writeOk readOk bytes) = some r →
    ((r.rspTag1 = 0b10#2 ∧ r.rspTag2 = 0b10#2) ↔ ¬ (writeOk = true ∧ readOk = true ∧ bytes.length = 6)) ∧
    (r.rspTag1 = 0b10#2 ↔ r.rspTag2 = 0b10#2)

/-- After 60_exceptions.md R105 and R106: after a full read, each group is published exactly when its checksum matched.
That stale telemetry is kept for a group that did not match is the model's choice: the rules leave that value to the
consumer (log entry 15, DESIGN CHOICE). -/
def Obligations.HostPublishesExactlyTheValidGroups : Prop :=
  ∀ (p : Poller) (b0 b1 b2 b3 b4 b5 : Byte) (r : Response), p.phase = .frameReceived →
    respond (frameRequest true true [b0, b1, b2, b3, b4, b5]) = some r →
    (p.next (.response r)).telemetry1 = (if crc8 (b0 ++ b1) = b2 then some (b0 ++ b1) else p.telemetry1) ∧
    (p.next (.response r)).telemetry2 = (if crc8 (b3 ++ b4) = b5 then some (b3 ++ b4) else p.telemetry2)

/-- 60_exceptions.md R105 and R106: a response with TRANSPORT_ERROR aborts the cycle and keeps the stale telemetry. The
state `transferFailed`, in which the host waits for the tags of a failed transfer, is the model's choice (log entry 15,
DESIGN CHOICE), and so is that the host is idle at once (log entry 18, DESIGN CHOICE). -/
def Obligations.HostAbortKeepsStaleTelemetry : Prop :=
  ∀ (p : Poller) (ok : Bit) (count : Byte) (b : Frame), p.phase = .frameReceived ∨ p.phase = .transferFailed →
    (ok = 0 ∨ count ≠ 6) →
    (p.next (.response (frameResponse ok count b))).phase = .idle ∧
    (p.next (.response (frameResponse ok count b))).telemetry1 = p.telemetry1 ∧
    (p.next (.response (frameResponse ok count b))).telemetry2 = p.telemetry2

/-- After 60_exceptions.md R104 and 70_reset_and_hazards.md R116: after a successful command write the host waits the
whole settle delay of the command, unit by unit, and makes no bus call before it has passed. The delay of a command that
is neither a measurement nor an initialization or reset, and the count-down by one event per time unit, are the model's
choice (log entry 14, DESIGN CHOICE), and so is that the host leaves CommandSent at the next moment (log entry 21,
DESIGN CHOICE). -/
def Obligations.HostWaitsTheSettleDelay : Prop :=
  (∀ (p : Poller) (c : Config.Command), p.phase = .commandSent c →
    (p.next (.bus .proceed)).phase = .awaitingResponse c (settleDelay c)) ∧
  (∀ (p : Poller) (c : Config.Command) (delay n : Nat), p.phase = .awaitingResponse c delay → n ≤ delay →
    ((List.replicate n (PollEvent.bus .timeUnit)).foldl Poller.next p).phase = .awaitingResponse c (delay - n) ∧
    ∀ d : Config.Command, ((List.replicate n (PollEvent.bus .timeUnit)).foldl Poller.next p).busCall d =
      if n = delay then some (responseRead c) else none)

/-- 30_encoding.md R58-R60: an accepted `frame.check` or `frame.validate` has exactly six byte operands with a comma
between each two and none after the last, and then nothing, or `count=` and `ok=` in that order. R59 does not
list a comma after the last operand; that it is rejected is the model's choice (log entry 12, DESIGN CHOICE). -/
def Obligations.AcceptedFrameLinesHaveTheStatedForm : Prop :=
  ∀ (ts : List Token) (i : Instr),
    (asmCheck ts = .ok i → ∃ c0 c1 c2 c3 c4 c5 : List Char,
      ts = [.word c0, .comma, .word c1, .comma, .word c2, .comma, .word c3, .comma, .word c4, .comma, .word c5]) ∧
    (asmValidate ts = .ok i → ∃ c0 c1 c2 c3 c4 c5 n k : List Char,
      ts = [.word c0, .comma, .word c1, .comma, .word c2, .comma, .word c3, .comma, .word c4, .comma, .word c5,
        .word ("count=".toList ++ n), .word ("ok=".toList ++ k)])

/-- 60_exceptions.md R105 and R106, host and core together: when the read is due, a full read makes the host issue one
request; the core answers it with exactly one response and each group is published exactly when its checksum matched.
A read that failed or returned another number of bytes ends the cycle: at most one request, stale telemetry kept, no
second read. The model's choices in this, all DESIGN CHOICE: keeping the stale value of a mismatched group and the wait
for the tags of a failed transfer (log entry 15); being idle at once after an abort (log entry 18); that a read of 6
bytes is validated, and one of any other length ends the cycle, after every command and not a measurement only (log
entry 19); that host and core move together and the host reads the answer at once (log entry 20), with no reset in
between (log entry 22). -/
def Obligations.HostedReadEndsInOneResponseOrAnAbort : Prop :=
  ∀ (b : Bench) (c : Config.Command), b.host.phase = .awaitingResponse c 0 →
    (∀ (f : Frame) (anyway : Bool), ∃ t,
      b.next (.readDone true [f.b0, f.b1, f.b2, f.b3, f.b4, f.b5] anyway) = .next t ∧
      t.core.history = b.core.history ++ [(encode (.frameValidate 1 6 f), frameResponse 1 6 f)] ∧
      t.core.refused = b.core.refused ∧ t.host.issued = none ∧
      t.host.telemetry1 = (if crc8 (f.b0 ++ f.b1) = f.b2 then some (f.b0 ++ f.b1) else b.host.telemetry1) ∧
      t.host.telemetry2 = (if crc8 (f.b3 ++ f.b4) = f.b5 then some (f.b3 ++ f.b4) else b.host.telemetry2)) ∧
    (∀ (success : Bool) (bytes : List Byte) (anyway : Bool), ¬ (success = true ∧ bytes.length = 6) → ∃ t,
      b.next (.readDone success bytes anyway) = .next t ∧
      t.core.history = b.core.history ++
        (if anyway then [(encode (frameRequest true success bytes),
          { rspCrc := 0, rspMatch := 0, rspTag1 := 0b10, rspVal1 := 0, rspCalc1 := 0,
            rspTag2 := 0b10, rspVal2 := 0, rspCalc2 := 0 })] else []) ∧
      t.core.refused = b.core.refused ∧ t.host.issued = none ∧ t.host.phase = .idle ∧
      t.host.telemetry1 = b.host.telemetry1 ∧ t.host.telemetry2 = b.host.telemetry2)
end

