-- ==== Sys2Proof/Laws/Crc.lean ====
section
/-! SUPPORT. Small lemmas about the CRC functions and the byte order of a data word. -/

namespace Sys2Proof.Machine

theorem stepBits_zero (a : Byte) : stepBits 0 a = a := rfl
theorem stepBits_succ (n : Nat) (a : Byte) : stepBits (n + 1) a = stepBits n (stepBit a) := rfl

/-- `crc8` is the byte update run over the two bytes, high byte first. -/
theorem crc8_eq_crcResidue (d : Data) : crc8 d = crcResidue [highByte d, lowByte d] := rfl

theorem crcResidue_append (bytes : List Byte) (b : Byte) :
    crcResidue (bytes ++ [b]) = crcUpdate (crcResidue bytes) b := by
  simp [crcResidue]

theorem getLsbD_dataOfBytes (hi lo : Byte) (i : Nat) :
    (dataOfBytes hi lo).getLsbD i = if i < 8 then lo.getLsbD i else hi.getLsbD (i - 8) :=
  BitVec.getLsbD_append

theorem highByte_dataOfBytes (hi lo : Byte) : highByte (dataOfBytes hi lo) = hi := by
  apply BitVec.eq_of_getLsbD_eq
  intro i h
  simp [highByte, getLsbD_dataOfBytes, h]

theorem lowByte_dataOfBytes (hi lo : Byte) : lowByte (dataOfBytes hi lo) = lo := by
  apply BitVec.eq_of_getLsbD_eq
  intro i h
  simp [lowByte, getLsbD_dataOfBytes, h]

end Sys2Proof.Machine
end

