-- ==== Sys2Proof/Laws/State.lean ====
section
/-! SUPPORT. One lemma per field per update of State, and what the inputs read as. -/

namespace Sys2Proof.Machine

@[simp] theorem refuse_history (s : State) : s.refuse.history = s.history := rfl
@[simp] theorem refuse_refused (s : State) : s.refuse.refused = true := rfl
@[simp] theorem refuse_inputs (s : State) : s.refuse.inputs = s.inputs := rfl

@[simp] theorem takeReset_history (s : State) : s.takeReset.history = [] := rfl
@[simp] theorem takeReset_refused (s : State) : s.takeReset.refused = false := rfl
@[simp] theorem takeReset_inputs (s : State) : s.takeReset.inputs = s.inputs := rfl

@[simp] theorem consumeInput_history (s : State) : s.consumeInput.history = s.history := rfl
@[simp] theorem consumeInput_refused (s : State) : s.consumeInput.refused = s.refused := rfl
@[simp] theorem consumeInput_inputs (s : State) : s.consumeInput.inputs = s.inputs.tail := rfl

@[simp] theorem answer_refused (r : Response) (s : State) : (s.answer r).refused = s.refused := by
  unfold State.answer; split <;> rfl
@[simp] theorem answer_inputs (r : Response) (s : State) : (s.answer r).inputs = s.inputs := by
  unfold State.answer; split <;> rfl

/-- Answering a presented request appends its pair. -/
theorem answer_history_of_presented {r : Response} {s : State} {w : Word} (h : s.presented = some w) :
    (s.answer r).history = s.history ++ [(w, r)] := by
  simp [State.answer, h]

/-- With no request presented, answering leaves the state as it is. -/
theorem answer_of_not_presented {r : Response} {s : State} (h : s.presented = none) : s.answer r = s := by
  simp [State.answer, h]

/-- The inputs of a host that presents `w` now. -/
theorem presented_of_present {s : State} {w : Word} {rest : List HostInput}
    (h : s.inputs = HostInput.present w :: rest) : s.presented = some w ∧ s.resetAsserted = false := by
  simp [State.presented, State.resetAsserted, h, HostInput.present]

/-- While reset is asserted no request is accepted. -/
theorem presented_of_resetAsserted {s : State} (h : s.resetAsserted = true) : s.presented = none := by
  unfold State.resetAsserted at h
  unfold State.presented
  split <;> simp_all

theorem withFetchWord_history (s : State) (nbits w : Nat) : (s.withFetchWord nbits w).history = s.history := rfl
theorem withFetchWord_refused (s : State) (nbits w : Nat) : (s.withFetchWord nbits w).refused = s.refused := rfl

end Sys2Proof.Machine
end

