-- ==== Sys2Proof/Laws/Ops.lean ====
section
/-! SUPPORT. What each request and the step can do, said once. -/

namespace Sys2Proof.Machine

/-- Every request either is answered with the response it determines or is refused. -/
theorem exec_eq (i : Instr) (s : State) :
    exec i s = match respond i with
      | some r => .next (s.answer r)
      | none => .next s.refuse := by
  cases i <;> rfl

/-- Everything a step can do: take a reset, idle, answer the presented request, or refuse it. -/
theorem step_eq_next_iff_cases {s t : State} (h : step s = .next t) :
    (s.resetAsserted = true ∧ t = s.takeReset.consumeInput) ∨
    (s.resetAsserted = false ∧ s.presented = none ∧ t = s.consumeInput) ∨
    (∃ w r, s.resetAsserted = false ∧ s.presented = some w ∧ respond (decode w) = some r ∧
      t = (s.answer r).consumeInput) ∨
    (∃ w, s.resetAsserted = false ∧ s.presented = some w ∧ respond (decode w) = none ∧
      t = s.refuse.consumeInput) := by
  unfold step at h
  split at h
  · rename_i hr
    exact .inl ⟨hr, by injection h with h; exact h.symm⟩
  · rename_i hr
    have hr' : s.resetAsserted = false := by simpa using hr
    split at h
    · rename_i hp
      exact .inr (.inl ⟨hr', hp, by injection h with h; exact h.symm⟩)
    · rename_i w hp
      rw [exec_eq] at h
      cases hresp : respond (decode w) with
      | some r =>
        simp only [hresp] at h
        exact .inr (.inr (.inl ⟨w, r, hr', hp, hresp, by injection h with h; exact h.symm⟩))
      | none =>
        simp only [hresp] at h
        exact .inr (.inr (.inr ⟨w, hr', hp, hresp, by injection h with h; exact h.symm⟩))

/-- One step, then the rest of the run. -/
theorem run_of_step {M : Host.Core} {s t : M.State} (n : Nat) (h : M.step s = .next t) :
    M.run (n + 1) s = M.run n t := by
  simp only [Host.Core.run, h]

end Sys2Proof.Machine
end

