-- ==== Sys2Proof/Laws/Launch.lean ====
section
/-! SUPPORT. The host's read cycle: what a transition can issue, that a cycle issues one request, and that the inputs
the cycle drives meet the launch premises. -/

namespace Sys2Proof.Machine

@[simp] theorem goto_issued (p : Poller) (x : PollPhase) : (p.goto x).issued = none := rfl
@[simp] theorem goto_phase (p : Poller) (x : PollPhase) : (p.goto x).phase = x := rfl
@[simp] theorem issue_issued (p : Poller) (x : PollPhase) (i : Instr) : (p.issue x i).issued = some i := rfl
@[simp] theorem issue_phase (p : Poller) (x : PollPhase) (i : Instr) : (p.issue x i).phase = x := rfl
@[simp] theorem stay_issued (p : Poller) : p.stay.issued = none := rfl
@[simp] theorem stay_phase (p : Poller) : p.stay.phase = p.phase := rfl
@[simp] theorem abort_issued (p : Poller) : p.abort.issued = none := rfl
@[simp] theorem abort_phase (p : Poller) : p.abort.phase = .idle := rfl
@[simp] theorem goto_telemetry1 (p : Poller) (x : PollPhase) : (p.goto x).telemetry1 = p.telemetry1 := rfl
@[simp] theorem goto_telemetry2 (p : Poller) (x : PollPhase) : (p.goto x).telemetry2 = p.telemetry2 := rfl
@[simp] theorem issue_telemetry1 (p : Poller) (x : PollPhase) (i : Instr) :
    (p.issue x i).telemetry1 = p.telemetry1 := rfl
@[simp] theorem issue_telemetry2 (p : Poller) (x : PollPhase) (i : Instr) :
    (p.issue x i).telemetry2 = p.telemetry2 := rfl
@[simp] theorem stay_telemetry1 (p : Poller) : p.stay.telemetry1 = p.telemetry1 := rfl
@[simp] theorem stay_telemetry2 (p : Poller) : p.stay.telemetry2 = p.telemetry2 := rfl
@[simp] theorem abort_telemetry1 (p : Poller) : p.abort.telemetry1 = p.telemetry1 := rfl
@[simp] theorem abort_telemetry2 (p : Poller) : p.abort.telemetry2 = p.telemetry2 := rfl

@[simp] theorem readResponse_issued (p : Poller) (r : Response) : (p.readResponse r).issued = none := by
  unfold Poller.readResponse
  split
  · split <;> rfl
  · rfl

@[simp] theorem readFailure_issued (p : Poller) (r : Response) : (p.readFailure r).issued = none := by
  unfold Poller.readFailure; split <;> rfl

/-- What a transition is, as far as issuing goes: it issues nothing and ends no transfer by a request, or it issues the
request of the transfer it ends and then waits for the tags. -/
theorem next_issue_cases (p : Poller) (e : PollEvent) :
    ((p.next e).issued = none ∧ p.transfer e = none) ∨
    ∃ x, p.transfer e = some x ∧ (p.next e).issued = some x.request ∧ x.settled = true ∧
      ((p.next e).phase = .transferFailed ∨ (p.next e).phase = .frameReceived) := by
  obtain ⟨phase, t1, t2, i⟩ := p
  rcases phase with _ | c | ⟨c, _ | d⟩ | _ | _ | (_ | n) | ⟨a, b, _ | n⟩ <;>
    rcases e with (⟨c', _ | _, _ | _⟩ | _ | _ | ⟨_ | _, bytes, _ | _⟩) | r <;>
    simp [Poller.next, Poller.transfer, Transfer.request, Transfer.settled]
  all_goals by_cases h : bytes.length = Config.frameBytes <;> simp [h]

/-- A host that waits for tags moves on a response only, issues nothing, and makes no bus call. -/
theorem waiting_host {q : Poller} (h : q.phase = .transferFailed ∨ q.phase = .frameReceived) :
    (∀ e, (q.next e).issued = none) ∧ (∀ c, q.busCall c = none) ∧ ∀ e, (q.next (.bus e)).phase = q.phase := by
  rcases h with h | h
  all_goals
    refine ⟨fun e => ?_, fun c => ?_, fun e => ?_⟩
    · cases e <;> simp [Poller.next, h]
    · simp [Poller.busCall, h]
    · simp [Poller.next, h]

/-- One request per cycle (60_exceptions.md R105, R106): once a request is issued, nothing more is issued and no bus
call is due until a response moves the host. -/
theorem next_after_issue {p : Poller} {e : PollEvent} (h : (p.next e).issued ≠ none) :
    (∀ e', ((p.next e).next e').issued = none) ∧ (∀ c, (p.next e).busCall c = none) ∧
    ∀ e', ((p.next e).next (.bus e')).phase = (p.next e).phase := by
  rcases next_issue_cases p e with ⟨hn, _⟩ | ⟨_, _, _, _, hw⟩
  · exact absurd hn h
  · exact waiting_host hw

/-- The host asserts no reset. -/
theorem hostInput_reset (p : Poller) : p.hostInput.reset = false := by
  unfold Poller.hostInput; split <;> rfl

theorem inputs_reset (p : Poller) (es : List PollEvent) : ∀ i ∈ p.inputs es, i.reset = false := by
  induction es generalizing p with
  | nil => simp [Poller.inputs]
  | cons e es ih =>
    intro i hi
    rcases List.mem_cons.1 hi with rfl | hi
    · exact hostInput_reset _
    · exact ih _ i hi

theorem reissuedAfterReset_of_no_reset {is : List HostInput} (h : ∀ i ∈ is, i.reset = false) :
    reissuedAfterReset is = true := by
  induction is with
  | nil => rfl
  | cons i is ih =>
    simp [reissuedAfterReset, h i (by simp), ih fun j hj => h j (by simp [hj])]

theorem resetReleasedFirst_of_no_reset {is : List HostInput} (h : ∀ i ∈ is, i.reset = false) :
    resetReleasedFirst is = true := by
  cases is with
  | nil => rfl
  | cons i is => simp [resetReleasedFirst, h i (by simp)]

/-- The inputs that the read cycle drives meet every launch premise, for the transfers it made, if the decoder reads the
host's frame requests back (which the statement DecodeInvertsEncode says of every request). -/
theorem inputs_launchPremises (p : Poller) (es : List PollEvent) (s : State) (hs : s.inputs = p.inputs es)
    (hdec : ∀ x : Transfer, decode (encode x.request) = x.request) : LaunchPremises s (p.transfers es) := by
  have hr := inputs_reset p es
  refine ⟨?_, hs ▸ resetReleasedFirst_of_no_reset hr, hs ▸ reissuedAfterReset_of_no_reset hr, hs ▸ ?_, ?_⟩
  · rw [State.hostConforms, hs]
    clear hr hs
    induction es generalizing p with
    | nil => rfl
    | cons e es ih =>
      rw [Poller.inputs, List.all_cons, ih, Bool.and_true]
      rcases next_issue_cases p e with ⟨hn, _⟩ | ⟨x, _, hi, _, _⟩
      · simp [Poller.hostInput, hn, HostInput.conforming, HostInput.idle]
      · simp [Poller.hostInput, hi, HostInput.conforming, HostInput.present, hdec]
        rfl
  · clear hr hs
    induction es generalizing p with
    | nil => rfl
    | cons e es ih =>
      rcases next_issue_cases p e with ⟨hn, ht⟩ | ⟨x, ht, hi, _, _⟩
      · simp [Poller.inputs, Poller.transfers, Poller.hostInput, hn, ht, truthful, HostInput.idle, ih]
      · simp [Poller.inputs, Poller.transfers, Poller.hostInput, hi, ht, truthful, HostInput.present, hdec]
        simp [Transfer.request, frameRequest, ih]
  · clear hr hs
    induction es generalizing p with
    | nil => rfl
    | cons e es ih =>
      rw [Poller.transfers, List.all_append, ih, Bool.and_true]
      rcases next_issue_cases p e with ⟨_, ht⟩ | ⟨x, ht, _, hx, _⟩ <;> simp [*]

end Sys2Proof.Machine
end

