-- ==== Sys2Proof/Laws/PerInstr.lean ====
section
/-! SUPPORT. Per-instruction families. `Opcode`: the word of a request is accepted by the request's own row of the
opcode table. -/

namespace Sys2Proof.Laws.Opcode

/-- The encoded word matches the row of the request. -/
def Statement (i : Instr) : Prop := i.row.accepts (encode i) = true

/-- The two op bits are the top of the word. -/
theorem getLsbD_requestWord_of_op (op : BitVec 2) (ok : Bit) (rsv : BitVec 5) (count : Byte) (payload : BitVec 48)
    (k : Nat) : (requestWord op ok rsv count payload).getLsbD (62 + k) = op.getLsbD k := by
  simp only [requestWord, BitVec.getLsbD_append]
  simp (disch := omega) only [if_neg, show 62 + k - 48 - 8 - 5 - 1 = k by omega]

/-- The table's mask keeps the op bits and nothing else. -/
theorem accepts_requestWord (row : OpcodeRow) (op : BitVec 2) (hm : row.mask = 0xC000000000000000)
    (hv : row.value = op.setWidth 64 <<< 62) (ok : Bit) (rsv : BitVec 5) (count : Byte) (payload : BitVec 48) :
    row.accepts (requestWord op ok rsv count payload) = true := by
  have hmask : (0xC000000000000000 : Word) = (3#64) <<< 62 := by decide
  simp only [OpcodeRow.accepts, hm, hv, beq_iff_eq, hmask]
  apply BitVec.eq_of_getLsbD_eq
  intro i hi
  by_cases h : i < 62
  · have h3 : ((3#64) <<< 62).getLsbD i = false := by rw [BitVec.getLsbD_shiftLeft]; simp [h]
    rw [BitVec.getLsbD_and, h3]
    simp [h]
  · obtain ⟨k, rfl⟩ : ∃ k, i = 62 + k := ⟨i - 62, by omega⟩
    have hk : k = 0 ∨ k = 1 := by omega
    rw [BitVec.getLsbD_and, getLsbD_requestWord_of_op]
    rcases hk with rfl | rfl <;> simp

theorem crc8Compute (data : Data) : Statement (.crc8Compute data) :=
  accepts_requestWord rowCrc8Compute 0b00 rfl (by decide) _ _ _ _

theorem crc8Verify (data : Data) (rxCrc : Byte) : Statement (.crc8Verify data rxCrc) :=
  accepts_requestWord rowCrc8Verify 0b01 rfl (by decide) _ _ _ _

theorem frameValidate (ok : Bit) (count : Byte) (b : Frame) : Statement (.frameValidate ok count b) :=
  accepts_requestWord rowFrameValidate 0b10 rfl (by decide) _ _ _ _

theorem reservedOp3 : Statement .reservedOp3 :=
  accepts_requestWord rowReservedOp3 0b11 rfl (by decide) _ _ _ _

end Sys2Proof.Laws.Opcode
end

