-- ==== Sys2Proof/Tests/Slice0.lean ====
section
/-! SUPPORT. Small tests, each with its expected value from spec/ (95_test_vectors.md V<n>, F<n>, or the rule named),
and for every statement with hypotheses a witness that meets them. -/

namespace Sys2Proof.Tests

open Sys2Proof Sys2Proof.Machine

/-! ## Helpers -/

/-- One answered pair, the mark clear, and the host presenting `w`. -/
def presenting (w : Word) : State :=
  { history := [(0xC0FFEE00, crc8ComputeResponse 0xFFEE)], refused := false, inputs := [HostInput.present w] }

/-- One answered pair, the mark set, and the given inputs. -/
def withInputs (ins : List HostInput) : State :=
  { history := [(0xC0FFEE00, crc8ComputeResponse 0xFFEE)], refused := true, inputs := ins }

/-- What one step from `presenting w` appends, packed, and the mark after it. -/
def stepResult (w : Word) : Option (List (Word × Word) × Bool) :=
  match step (presenting w) with
  | .next t => some (t.history.tail.map (fun e => (e.1, e.2.packed)), t.refused)
  | .fault _ => none
  | .refused _ => none

def frameF1 : Frame := { b0 := 0xBE, b1 := 0xEF, b2 := 0x92, b3 := 0x12, b4 := 0x34, b5 := 0x37 }

/-! ## Well-formedness: the one check refuses the reserved op (30_encoding.md R52) -/

theorem test_reserved_op_is_not_wellFormed : Instr.reservedOp3.wellFormed = false := by decide
theorem test_compute_is_wellFormed : (Instr.crc8Compute 0).wellFormed = true := by decide

/-! ## Decoding: words written out from 30_encoding.md R44-R49 -/

/-- op 00, data 0xBEEF, every ignored bit 1 (40_crc8.md R66). -/
theorem test_decode_compute : decode 0x3FFFFFFFFFBEEFFF = .crc8Compute 0xBEEF := by decide
/-- op 01, every ignored bit 1 (V6). -/
theorem test_decode_verify : decode 0x7FFFFFFFFFBEEF92 = .crc8Verify 0xBEEF 0x92 := by decide
/-- op 10, ok 0, rsv 11111, count 0xA5, six distinct bytes: 10 0 11111 | A5 | 01 02 03 04 05 06. -/
theorem test_decode_frame : decode 0x9FA5010203040506 =
    .frameValidate 0 0xA5 { b0 := 1, b1 := 2, b2 := 3, b3 := 4, b4 := 5, b5 := 6 } := by decide
/-- op 11 (V8). -/
theorem test_decode_reserved : decode 0xC000000000123400 = .reservedOp3 := by decide
theorem test_refusal_reason : (decode 0xFFFFFFFFFFFFFFFF).refusal = some .reservedOp := by decide
theorem test_table_word : decodeTableWord 64 0xC000000000000000 = some .reservedOp3 ∧ decodeTableWord 65 0 = none := by
  decide
/-- `frame.validate BE,EF,92,12,34,37 count=6 ok=0` (F5). -/
theorem test_encode_frame : encode (.frameValidate 0 6 frameF1) = 0x8006BEEF92123437 := by decide
theorem test_encode_verify : encode (.crc8Verify 0xBEEF 0x92) = 0x4000000000BEEF92 := by decide

/-! ## The CRC -/

/-- V1: the accumulator after the high byte, and the result. -/
theorem test_crc8_trace : step8 0x41 = 0x0C ∧ step8 0xE3 = 0x92 ∧ crc8 0xBEEF = 0x92 := by decide +kernel
/-- V2, 90_conflicts.md C1. -/
theorem test_crc8_zero : crc8 0x0000 = 0x81 := by decide +kernel
/-- V4: the table and nibble paths. -/
theorem test_table_paths : tableT 0x41 = 0x0C ∧ nibbleT 0xE3 = 0x92 ∧ crc8Table 0x0000 = 0x81 := by decide +kernel
/-- V10. -/
theorem test_residue : crcResidue [0xBE, 0xEF, 0x92] = 0 := by decide +kernel

/-! ## One step per request -/

/-- V5, last row. -/
theorem test_compute_step : stepResult 0x3FFFFFFFFFBEEFFF =
    some ([(0x3FFFFFFFFFBEEFFF, 0x9200000000000000)], false) := by decide +kernel
/-- V6: a match with the CRC 0xFF, which is no error marker. -/
theorem test_verify_match_step : stepResult 0x40000000000050FF =
    some ([(0x40000000000050FF, 0xFF80000000000000)], false) := by decide +kernel
/-- V6: a mismatch still gives the computed CRC. -/
theorem test_verify_mismatch_step : stepResult 0x4000000000BEEF93 =
    some ([(0x4000000000BEEF93, 0x9200000000000000)], false) := by decide +kernel
/-- F2: group 1 VALID, group 2 CHECKSUM_ERROR. -/
theorem test_frame_mixed_step : stepResult 0xA006BEEF92123400 =
    some ([(0xA006BEEF92123400, 0x0004BEEF92123437)], false) := by decide +kernel
/-- F8: seven bytes are a transport failure although both checksums match. -/
theorem test_frame_long_read_step : stepResult 0xA007BEEF92123437 =
    some ([(0xA007BEEF92123437, 0x0028000000000000)], false) := by decide +kernel
/-- V8: no response, the mark set. -/
theorem test_reserved_step : stepResult 0xC000000000123400 = some ([], true) := by decide +kernel
/-- 70_reset_and_hazards.md R108: an unanswered request is discarded and a new launch starts. -/
theorem test_reset_step : step (withInputs [HostInput.resetAsserted (some 0xBEEF00)]) = .next State.reset := rfl
/-- The word given to `withFetchWord` is the first request after reset. -/
theorem test_fetch_word : (State.reset.withFetchWord 64 0xA006BEEF92123437).presented = some 0xA006BEEF92123437 := by
  decide

/-! ## The assembler (30_encoding.md R58-R60) -/

/-- 95_test_vectors.md P3, first and last line. -/
theorem test_assemble_lines :
    assemble "frame.validate BE,EF,92,12,34,37 count=6 ok=0 # write failed\nframe.check BE,EF,92,12,34,37".toList =
      .ok [0x8006BEEF92123437, 0xA006BEEF92123437] := by decide
theorem test_assemble_verify : assemble "crc8.verify  0xBEEF, 0x93".toList = .ok [0x4000000000BEEF93] := by decide
/-- R59: five digits, a count above 255, five bytes, and a mnemonic of no rule. -/
theorem test_assembler_rejects :
    assemble "crc8.compute 0x1BEEF".toList = .error .badLiteral ∧
    assemble "frame.validate 1,2,3,4,5,6 count=256 ok=1".toList = .error .badCount ∧
    assemble "frame.check 1,2,3,4,5".toList = .error .notSixBytes ∧
    assemble ".word 0xC000".toList = .error .unknownMnemonic := by decide
/-- R60 writes no comma after the sixth byte. -/
theorem test_assembler_rejects_final_comma :
    assemble "frame.check 1,2,3,4,5,6,".toList = .error .badOperands ∧
    assemble "frame.validate 1,2,3,4,5,6, count=6 ok=1".toList = .error .notSixBytes := by decide

/-! ## The host's read cycle (95_test_vectors.md P5) -/

def awaiting : Poller :=
  { phase := .awaitingResponse .measureRaw 0, telemetry1 := some 1, telemetry2 := none, issued := none }

theorem test_poller_issues_the_frame :
    (awaiting.next (.bus (.readDone true [0x66, 0x66, 0x93, 0x80, 0x80, 0xD8] false))).hostInput =
      HostInput.present 0xA0066666938080D8 := by decide
/-- P3: three bytes returned, the host issues the request anyway; the count is 3 and the bytes not returned are 0. -/
theorem test_poller_short_read :
    (awaiting.next (.bus (.readDone true [0xBE, 0xEF, 0x92] true))).hostInput = HostInput.present 0xA003BEEF92000000 := by
  decide

/-! ## Witnesses: states and operands that meet the hypotheses of each statement that has some -/

theorem witness_ResetInputStartsANewLaunch :
    (withInputs [HostInput.resetAsserted (some 5), HostInput.idle]).inputs =
      HostInput.resetAsserted (some 5) :: [HostInput.idle] := rfl

theorem witness_NoResponseBeforeTheFirstAnswer :
    State.history { State.reset with inputs := [HostInput.idle, HostInput.resetAsserted (some 7)] } = [] ∧
    (∀ i ∈ [HostInput.idle, HostInput.resetAsserted (some 7)], i.reset = true ∨ i.request = none) := by decide

/-- Serves every statement whose hypothesis is that the host presents `w`: StepRunsTheDecodedRequest, and with the
words below the step statements. -/
theorem witness_presenting (w : Word) :
    (presenting w).inputs = HostInput.present w :: [] ∧ (presenting w).presented = some w ∧
    (presenting w).resetAsserted = false := ⟨rfl, rfl, rfl⟩

theorem witness_IdleStepChangesOnlyTheInputs :
    (withInputs [HostInput.idle]).presented = none ∧ (withInputs [HostInput.idle]).resetAsserted = false := by decide

theorem witness_StepAppendsThePairOrSetsTheMark :
    decodeRequest 0xC000000000123400 = .error .reservedOp ∧
    decodeRequest 0x40000000000050FF = .ok (.crc8Verify 0x0050 0xFF) := ⟨rfl, rfl⟩

/-- The exec statements of the CRC operations and of the received frame. -/
theorem witness_Crc8ComputeGivesTheCrc : (presenting 0x00BEEF00).presented = some 0x00BEEF00 := rfl
theorem witness_Crc8VerifyGivesMatchAndCrc : (presenting 0x4000000000BEEF92).presented = some 0x4000000000BEEF92 := rfl
theorem witness_FrameValidateChecksEachGroup :
    (presenting 0xA006BEEF92123437).presented = some 0xA006BEEF92123437 := rfl

/-- `ok = 0` with six bytes, one byte too few, one too many. -/
theorem witness_FrameValidateReportsTransportFailure :
    (presenting 0x8006BEEF92123437).presented = some 0x8006BEEF92123437 ∧
    ((0 : Bit) = 0 ∨ (6 : Byte) ≠ 6) ∧ ((1 : Bit) = 0 ∨ (5 : Byte) ≠ 6) ∧ ((1 : Bit) = 0 ∨ (7 : Byte) ≠ 6) := by
  decide

theorem witness_words_of_each_op :
    (0x3FFFFFFFFFBEEFFF : Word).extractLsb' 62 2 = 0b00#2 ∧ (0x7FFFFFFFFFBEEF92 : Word).extractLsb' 62 2 = 0b01#2 ∧
    (0xBF06BEEF92123437 : Word).extractLsb' 62 2 = 0b10#2 ∧ (0xFFFFFFFFFFFFFFFF : Word).extractLsb' 62 2 = 0b11#2 := by
  decide

theorem witness_OnlyTheReservedOpIsRefused :
    (withInputs [HostInput.present 0]).resetAsserted = false ∧ (withInputs [HostInput.present 0]).refused = true ∧
    ∃ t, step (withInputs [HostInput.present 0]) = .next t := ⟨rfl, rfl, _, rfl⟩

theorem witness_AnsweredRequestsChangeOnlyTheHistory :
    Instr.crc8Compute 1 ≠ .reservedOp3 ∧ (∃ t, exec (.crc8Compute 1) (presenting 0x100) = .next t) ∧
    (presenting 0x100).presented = some 0x100 ∧ (withInputs []).presented = none :=
  ⟨by decide, ⟨_, rfl⟩, rfl, rfl⟩

theorem witness_RefusedRequestChangesOnlyTheMark : ∃ t, exec .reservedOp3 (presenting 0) = .next t := ⟨_, rfl⟩

theorem witness_StepKeepsThePastAndMarksRefusals :
    (presenting 0xC000000000000000).resetAsserted = false ∧ ∃ t, step (presenting 0xC000000000000000) = .next t :=
  ⟨rfl, _, rfl⟩

/-- Words that differ in every bit the operation ignores, for each op. -/
theorem witness_IgnoredBitsHaveNoEffect :
    ((0x0000000000BEEF00 : Word) ^^^ 0x3FFFFFFFFFBEEFFF) &&& (decode 0x0000000000BEEF00).row.used = 0 ∧
    ((0x4000000000BEEF92 : Word) ^^^ 0x7FFFFFFFFFBEEF92) &&& (decode 0x4000000000BEEF92).row.used = 0 ∧
    ((0xA006BEEF92123437 : Word) ^^^ 0xBF06BEEF92123437) &&& (decode 0xA006BEEF92123437).row.used = 0 ∧
    ((0xC000000000000000 : Word) ^^^ 0xFFFFFFFFFFFFFFFF) &&& (decode 0xC000000000000000).row.used = 0 := by decide

theorem witness_EveryWordButOpThreeIsLegal : (0xBFFFFFFFFFFFFFFF : Word).extractLsb' 62 2 ≠ 0b11#2 := by decide

theorem witness_UnwrittenPortsAreZero :
    respond (.crc8Compute 0) = some (crc8ComputeResponse 0) ∧ Port.rspMatch ∉ portsWritten (.crc8Compute 0) ∧
    respond (.crc8Verify 0 0) = some (crc8VerifyResponse 0 0) ∧ Port.rspTag1 ∉ portsWritten (.crc8Verify 0 0) ∧
    respond (.frameValidate 1 6 frameF1) = some (frameResponse 1 6 frameF1) ∧
    Port.rspCrc ∉ portsWritten (.frameValidate 1 6 frameF1) := ⟨rfl, by decide, rfl, by decide, rfl, by decide⟩

/-- Weights 1, 2, 3, and an odd weight above 3: 15. -/
theorem witness_SmallAndOddErrorsAreDetected :
    bitWeight 0x8000 = 1 ∧ bitWeight 0x8001 = 2 ∧ bitWeight 0x8101 = 3 ∧ bitWeight 0x7FFF % 2 = 1 := by decide

theorem witness_GroupsAreIndependent :
    transportFailed 1 6 = transportFailed 1 6 ∧ transportFailed 0 6 = transportFailed 1 7 ∧
    frameF1.b0 = ({ frameF1 with b5 := 0 } : Frame).b0 ∧ frameF1.b1 = ({ frameF1 with b5 := 0 } : Frame).b1 ∧
    frameF1.b2 = ({ frameF1 with b5 := 0 } : Frame).b2 ∧ frameF1.b3 = ({ frameF1 with b2 := 0 } : Frame).b3 ∧
    frameF1.b4 = ({ frameF1 with b2 := 0 } : Frame).b4 ∧ frameF1.b5 = ({ frameF1 with b2 := 0 } : Frame).b5 := by
  decide

/-- F4: both groups CHECKSUM_ERROR. -/
theorem witness_ChecksumErrorKeepsTheValue :
    (frameResponse 1 6 { frameF1 with b2 := 0, b5 := 0 }).rspTag1 = 0b01#2 ∧
    (frameResponse 1 6 { frameF1 with b2 := 0, b5 := 0 }).rspTag2 = 0b01#2 := by decide +kernel

theorem witness_FrameBytesMatterOnlyWhenReceived :
    ((0 : Bit) = 0 ∨ (6 : Byte) ≠ 6) ∧
    frameResponse 1 6 { frameF1 with b2 := 0 } = frameResponse 1 6 { frameF1 with b2 := 1 } := by decide +kernel

/-- The recorded pair is the one its word determines, and its tags are consistent. -/
theorem witness_StepKeepsHistoryFaithful :
    (presenting 0x100).historyFaithful ∧ ∃ t, step (presenting 0x100) = .next t := by
  refine ⟨?_, _, rfl⟩
  intro e he
  have h : e = (0xC0FFEE00, crc8ComputeResponse 0xFFEE) := by simpa [presenting] using he
  subst h
  decide +kernel

theorem witness_StepKeepsTagsConsistent :
    (presenting 0x100).tagsConsistent ∧ ∃ t, step (presenting 0x100) = .next t := by
  refine ⟨?_, _, rfl⟩
  intro e he
  have h : e = (0xC0FFEE00, crc8ComputeResponse 0xFFEE) := by simpa [presenting] using he
  subst h
  unfold Response.tagsConsistent
  decide +kernel

theorem witness_ConformingHostIsNeverRefused :
    (presenting 0xBFFFFFFFFFFFFFFF).hostConforms = true ∧ (presenting 0xBFFFFFFFFFFFFFFF).safe = true := by decide

theorem witness_RunAnswersRequestsInOrder :
    (withInputs [HostInput.present 1, HostInput.present 0xC000000000000000, HostInput.idle]).inputs =
      [1, 0xC000000000000000].map HostInput.present ++ [HostInput.idle] := rfl

theorem witness_ResponsesIgnoreThePast :
    (presenting 0x100).presented = some 0x100 ∧ (withInputs [HostInput.present 0x100]).presented = some 0x100 ∧
    (∃ t, step (presenting 0x100) = .next t) ∧ ∃ t, step (withInputs [HostInput.present 0x100]) = .next t :=
  ⟨rfl, rfl, ⟨_, rfl⟩, _, rfl⟩

theorem witness_LinesSpellOnlyLegalRequests :
    asmLine "crc8.compute 0xBEEF".toList = .ok (some (.crc8Compute 0xBEEF)) := by decide

theorem witness_HostRequestFailsExactlyOnABadTransfer :
    ∃ r, respond (frameRequest true false [1, 2, 3, 4, 5, 6]) = some r := ⟨_, rfl⟩

theorem witness_HostPublishesExactlyTheValidGroups :
    ({ awaiting with phase := .frameReceived } : Poller).phase = .frameReceived ∧
    ∃ r, respond (frameRequest true true [0xBE, 0xEF, 0x92, 0x12, 0x34, 0x00]) = some r := ⟨rfl, _, rfl⟩

theorem witness_HostWaitsTheSettleDelay :
    ({ awaiting with phase := .commandSent .measureRaw } : Poller).phase = .commandSent .measureRaw ∧
    ({ awaiting with phase := .awaitingResponse .init 10 } : Poller).phase = .awaitingResponse .init 10 ∧
    7 ≤ 10 ∧ 10 ≤ 10 := by decide

theorem witness_HostAbortKeepsStaleTelemetry :
    ({ awaiting with phase := .frameReceived } : Poller).phase = .frameReceived ∧
    ({ awaiting with phase := .transferFailed } : Poller).phase = .transferFailed ∧
    ((0 : Bit) = 0 ∨ (6 : Byte) ≠ 6) ∧ ((1 : Bit) = 0 ∨ (255 : Byte) ≠ 6) := by decide

theorem witness_AcceptedFrameLinesHaveTheStatedForm :
    asmCheck (lexLine [] "1,2,3,4,5,6".toList) =
      .ok (.frameValidate 1 6 { b0 := 1, b1 := 2, b2 := 3, b3 := 4, b4 := 5, b5 := 6 }) ∧
    asmValidate (lexLine [] "1,2,3,4,5,6 count=255 ok=0".toList) =
      .ok (.frameValidate 0 255 { b0 := 1, b1 := 2, b2 := 3, b3 := 4, b4 := 5, b5 := 6 }) := by decide

/-- Successful reads one byte short and one byte long, and a full failed one, meet the second clause, after a
measurement and after another command. -/
theorem witness_HostedReadEndsInOneResponseOrAnAbort :
    ({ host := awaiting, core := withInputs [] } : Bench).host.phase = .awaitingResponse .measureRaw 0 ∧
    ({ host := { awaiting with phase := .awaitingResponse .serialId 0 }, core := withInputs [] } : Bench).host.phase =
      .awaitingResponse .serialId 0 ∧
    ¬ (true = true ∧ ([1, 2, 3, 4, 5] : List Byte).length = 6) ∧
    ¬ (true = true ∧ ([1, 2, 3, 4, 5, 6, 7] : List Byte).length = 6) ∧
    ¬ (false = true ∧ ([1, 2, 3, 4, 5, 6] : List Byte).length = 6) := by decide

/-- A launch that begins in reset, loses a frame request to a second reset, and issues it again: every premise of
`LaunchPremises` holds of it (the write failed, so no settle delay is due). -/
theorem witness_LaunchPremises :
    let w := encode (frameRequest false false [])
    let s : State := { State.reset with
      inputs := [HostInput.resetAsserted none, HostInput.present 0x00BEEF00, HostInput.resetAsserted (some w),
        HostInput.present w] }
    LaunchPremises s [{ command := .measureRaw, writeOk := false, waited := 0, readOk := false, bytes := [] }] := by
  constructor <;> decide

/-- Each duty is a check that can fail: a reserved op, a request while the launch begins in reset, a lost request never
issued again, a false count. -/
theorem test_duties_can_fail :
    (HostInput.present 0xC000000000000000).conforming = false ∧
    resetReleasedFirst [HostInput.resetAsserted (some 0)] = false ∧
    reissuedAfterReset [HostInput.resetAsserted (some 0), HostInput.present 1] = false ∧
    truthful [HostInput.present 0xA006BEEF92123437]
      [{ command := .measureRaw, writeOk := true, waited := 0, readOk := true, bytes := [0xBE, 0xEF, 0x92] }] = false := by
  decide

end Sys2Proof.Tests
end

section
/-! The CRC of the parameter set of 00_scope.md R2, iterated over the polynomial of `Config`, is the reference
definition of 40_crc8.md R63 and R64. -/

namespace Sys2Proof.Machine

/-- Shifting the parameter set's register under `CRC_POLY` is iterating R63's bit step, however often. -/
theorem parameterBits_crcPoly (n : Nat) (a : Byte) : parameterBits Config.crcPoly n a = stepBits n a := by
  induction n generalizing a with
  | zero => rfl
  | succ n ih =>
    have hmsb : a.msb = a.getLsbD 7 := BitVec.msb_eq_getLsbD_last a
    rw [parameterBits, hmsb, ih, stepBits_succ, stepBit]

/-- Without reflection and final XOR, the CRC of a parameter set over `CRC_POLY` and `CRC_INIT` is the byte update
of R73 run over the bytes. -/
theorem crcOfParameters_unreflected (bytes : List Byte) :
    crcOfParameters Config.crcPoly Config.crcInit false false 0 bytes = crcResidue bytes := by
  have hstep : (fun acc b : Byte => parameterBits Config.crcPoly 8 (acc ^^^ b)) = crcUpdate := by
    funext acc b
    exact parameterBits_crcPoly 8 (acc ^^^ b)
  simp [crcOfParameters, crcResidue, hstep]

/-- Settles O38: both sides are the byte update of R73 run over the two bytes of the data word. -/
theorem crcIsTheParameterSet : Obligations.CrcIsTheParameterSet := by
  intro d
  exact (crc8_eq_crcResidue d).trans (crcOfParameters_unreflected [highByte d, lowByte d]).symm

end Sys2Proof.Machine
end

section
/-! What the decoder refuses and what `respond` answers are one distinction: op 11 against the rest (30_encoding.md R52,
R53, R61). -/

namespace Sys2Proof.Machine

/-- Only the reserved op has no response. -/
theorem respond_eq_none_iff {i : Instr} : respond i = none ↔ i = .reservedOp3 := by
  cases i <;> simp [respond]

/-- A request has a response exactly when there is no reason to refuse it. -/
theorem refusal_eq_none_iff {i : Instr} : i.refusal = none ↔ i ≠ .reservedOp3 := by
  cases i <;> simp [Instr.refusal]

/-- R45: the last branch of the decoder is op 11 and nothing else. -/
theorem decode_eq_reservedOp3_iff {w : Word} : decode w = .reservedOp3 ↔ opField w = 0b11#2 := by
  have hop : ∀ op : BitVec 2, op = 0b11#2 ↔ op ≠ 0b00#2 ∧ op ≠ 0b01#2 ∧ op ≠ 0b10#2 := by decide
  rw [hop, decode]
  split_ifs with h0 h1 h2
  · simp [h0]
  · simp [h1]
  · simp [h2]
  · exact iff_of_true rfl ⟨h0, h1, h2⟩

theorem decode_eq_reservedOp3_of_decodeRequest_error {w : Word} {reason : DecodeRefusal}
    (h : decodeRequest w = .error reason) : decode w = .reservedOp3 := by
  by_contra hne
  simp [decodeRequest, refusal_eq_none_iff.2 hne] at h

/-- The request `decodeRequest` answers is the decoded word, and it has a response. -/
theorem decode_eq_of_decodeRequest_ok {w : Word} {i : Instr} (h : decodeRequest w = .ok i) :
    decode w = i ∧ ∃ r, respond i = some r := by
  unfold decodeRequest at h
  split at h
  · cases h
  · rename_i hnone
    obtain rfl : decode w = i := Except.ok.inj h
    exact ⟨rfl, Option.ne_none_iff_exists'.1 (mt respond_eq_none_iff.1 (refusal_eq_none_iff.1 hnone))⟩

/-- The pair a word adds holds the response that the word determines. -/
theorem respond_of_answerOf {w : Word} {e : Word × Response} (h : answerOf w = some e) :
    respond (decode e.1) = some e.2 := by
  obtain ⟨r, hr, rfl⟩ := Option.map_eq_some_iff.1 h
  exact hr

end Sys2Proof.Machine
end

section
/-! The next state of a step, case by case: the forward reading of the step relation of 10_state.md R28. -/

namespace Sys2Proof.Machine

variable {s t : State} {w : Word} {r : Response}

/-- A request is accepted only while reset is not asserted. -/
theorem not_resetAsserted_of_presented (hp : s.presented = some w) : s.resetAsserted = false := by
  by_contra hr
  simp [presented_of_resetAsserted (eq_true_of_ne_false hr)] at hp

theorem step_of_not_presented (hp : s.presented = none) (hr : s.resetAsserted = false) :
    step s = .next s.consumeInput := by
  simp [step, hr, hp]

/-- A step that presents a request is the request's meaning, then the next inputs. -/
theorem step_of_exec (hp : s.presented = some w) (he : exec (decode w) s = .next t) :
    step s = .next t.consumeInput := by
  simp [step, not_resetAsserted_of_presented hp, hp, he]

theorem step_of_respond_some (hp : s.presented = some w) (hr : respond (decode w) = some r) :
    step s = .next { history := s.history ++ [(w, r)], refused := s.refused, inputs := s.inputs.tail } := by
  have he : exec (decode w) s = .next (s.answer r) := by rw [exec_eq, hr]
  rw [step_of_exec hp he, State.answer, hp]
  rfl

theorem step_of_respond_none (hp : s.presented = some w) (hr : respond (decode w) = none) :
    step s = .next { history := s.history, refused := true, inputs := s.inputs.tail } := by
  have he : exec (decode w) s = .next s.refuse := by rw [exec_eq, hr]
  exact step_of_exec hp he

/-- Every meaning completes and leaves the inputs to the step. -/
theorem exec_completes_and_keeps_inputs (i : Instr) (s : State) :
    ∃ t, exec i s = .next t ∧ t.inputs = s.inputs := by
  rw [exec_eq]
  cases respond i with
  | some r => exact ⟨_, rfl, answer_inputs r s⟩
  | none => exact ⟨_, rfl, refuse_inputs s⟩

/-- What a step without reset records depends on the presented word alone (10_state.md R25). -/
theorem step_history (hr : s.resetAsserted = false) (h : step s = .next t) :
    t.history = s.history ++ (s.presented.bind answerOf).toList := by
  obtain ⟨hr', _⟩ | ⟨_, hp, rfl⟩ | ⟨w, r, _, hp, hresp, rfl⟩ | ⟨w, _, hp, hresp, rfl⟩ := step_eq_next_iff_cases h
  · simp [hr] at hr'
  · simp [hp]
  · simp [hp, answerOf, hresp, answer_history_of_presented hp]
  · simp [hp, answerOf, hresp]

theorem step_history_of_presented (hp : s.presented = some w) (h : step s = .next t) :
    t.history = s.history ++ (answerOf w).toList := by
  rw [step_history (not_resetAsserted_of_presented hp) h, hp, Option.bind_some]

/-- A step without reset sets the mark exactly when it presents a request that has no response. -/
theorem step_refused_iff (hr : s.resetAsserted = false) (h : step s = .next t) :
    t.refused = true ↔ s.refused = true ∨ ∃ w, s.presented = some w ∧ respond (decode w) = none := by
  obtain ⟨hr', _⟩ | ⟨_, hp, rfl⟩ | ⟨w, r, _, hp, hresp, rfl⟩ | ⟨w, _, hp, hresp, rfl⟩ := step_eq_next_iff_cases h
  · simp [hr] at hr'
  · simp [hp]
  · simp [hp, hresp]
  · simp [hp, hresp]

/-- Every step, a reset too, moves to the next inputs. -/
theorem step_inputs (h : step s = .next t) : t.inputs = s.inputs.tail := by
  obtain ⟨_, rfl⟩ | ⟨_, _, rfl⟩ | ⟨_, _, _, _, _, rfl⟩ | ⟨_, _, _, _, rfl⟩ := step_eq_next_iff_cases h <;> simp

/-- 70_reset_and_hazards.md R108, as a fact about the next state. -/
theorem step_history_of_resetAsserted (hr : s.resetAsserted = true) (h : step s = .next t) : t.history = [] := by
  simp only [step, hr, if_true, Host.Outcome.next.injEq] at h
  simp [← h]

end Sys2Proof.Machine
end

section
/-! A launch that has answered nothing: there is no last response, and both invariants hold of it. -/

namespace Sys2Proof.Machine

variable {s : State}

theorem lastResponse_of_history_nil (h : s.history = []) : s.lastResponse = none := by
  simp [State.lastResponse, h]

theorem historyFaithful_of_history_nil (h : s.history = []) : s.historyFaithful := by
  simp [State.historyFaithful, h]

theorem tagsConsistent_of_history_nil (h : s.history = []) : s.tagsConsistent := by
  simp [State.tagsConsistent, h]

end Sys2Proof.Machine
end

section
/-! The statements about the state and the step relation of 10_state.md. -/

namespace Sys2Proof.Machine

/-- Settles O49: a step empties the history or adds a pair that `answerOf` made of the presented word. -/
theorem stepKeepsHistoryFaithful : Obligations.StepKeepsHistoryFaithful := by
  intro s t hs h
  cases hr : s.resetAsserted with
  | true => exact historyFaithful_of_history_nil (step_history_of_resetAsserted hr h)
  | false =>
    intro e he
    rw [step_history hr h, List.mem_append] at he
    obtain hold | hnew := he
    · exact hs e hold
    · obtain ⟨w, _, hw⟩ := Option.bind_eq_some_iff.1 (Option.mem_toList.1 hnew)
      exact respond_of_answerOf hw

/-- Settles O7: what `decodeRequest` refuses has no response, and what it answers has one. -/
theorem stepAppendsThePairOrSetsTheMark : Obligations.StepAppendsThePairOrSetsTheMark := by
  refine ⟨⟨rfl, rfl⟩, fun s w rest hin => ?_⟩
  have hp := (presented_of_present hin).1
  have htail : s.inputs.tail = rest := by simp [hin]
  refine ⟨fun reason herr => ?_, fun i hok => ?_⟩
  · have hnone := respond_eq_none_iff.2 (decode_eq_reservedOp3_of_decodeRequest_error herr)
    rw [step_of_respond_none hp hnone, htail]
  · obtain ⟨rfl, r, hr⟩ := decode_eq_of_decodeRequest_ok hok
    exact ⟨r, hr, by rw [step_of_respond_some hp hr, htail]⟩

/-- Settles O19: a request has no response exactly when its op bits are 11. -/
theorem stepKeepsThePastAndMarksRefusals : Obligations.StepKeepsThePastAndMarksRefusals := by
  intro s t hr h
  refine ⟨step_inputs h, step_history hr h, ?_⟩
  simp only [step_refused_iff hr h, respond_eq_none_iff, decode_eq_reservedOp3_iff, opField]

/-- Settles O52: in both states the step appends the pair of the presented word. -/
theorem responsesIgnoreThePast : Obligations.ResponsesIgnoreThePast := by
  intro s t s' t' w hs ht hs' ht'
  exact ⟨(answerOf w).toList, step_history_of_presented hs hs', step_history_of_presented ht ht'⟩

/-- Settles O1: reset leaves an empty history, which has no last response. -/
theorem resetStateIsAnEmptyLaunch : Obligations.ResetStateIsAnEmptyLaunch :=
  ⟨rfl, rfl, lastResponse_of_history_nil rfl⟩

/-- Settles O4: every meaning completes without touching the inputs, so the step's `consumeInput` leaves `rest`. -/
theorem stepRunsTheDecodedRequest : Obligations.StepRunsTheDecodedRequest := by
  intro s w rest hin
  obtain ⟨t, he, ht⟩ := exec_completes_and_keeps_inputs (decode w) s
  refine ⟨t, he, ht, ?_⟩
  rw [step_of_exec (presented_of_present hin).1 he, State.consumeInput, ht, hin, List.tail_cons]

/-- Settles O5: with nothing to accept, the step is `consumeInput`. -/
theorem idleStepChangesOnlyTheInputs : Obligations.IdleStepChangesOnlyTheInputs :=
  fun _ hp hr => step_of_not_presented hp hr

/-- Settles O47: both invariants speak of recorded pairs only, and reset records none. -/
theorem invariantsHoldAtReset : Obligations.InvariantsHoldAtReset :=
  ⟨historyFaithful_of_history_nil rfl, tagsConsistent_of_history_nil rfl⟩

end Sys2Proof.Machine
end

section
/-! What an answered request and a presented word do, each in one equation (30_encoding.md R52, 10_state.md R28). -/

namespace Sys2Proof.Machine

variable {s : State} {w : Word} {rest : List HostInput}

/-- A request other than the reserved op is answered with the response it determines. -/
theorem exec_eq_next_answer {i : Instr} (hi : i ≠ .reservedOp3) (s : State) :
    ∃ r, respond i = some r ∧ exec i s = .next (s.answer r) := by
  obtain ⟨r, hr⟩ := Option.ne_none_iff_exists'.1 (mt respond_eq_none_iff.1 hi)
  exact ⟨r, hr, by rw [exec_eq, hr]⟩

/-- 30_encoding.md R52: exactly the words with op 11 have no response. -/
theorem respond_decode_eq_none_iff : respond (decode w) = none ↔ opField w = 0b11#2 :=
  respond_eq_none_iff.trans decode_eq_reservedOp3_iff

/-- The step of 10_state.md R28 on a presented word, the answered and the refused case in one next state. -/
theorem step_of_present (hin : s.inputs = HostInput.present w :: rest) :
    step s = .next
      { history := s.history ++ (answerOf w).toList, refused := s.refused || opField w == 0b11#2, inputs := rest } := by
  have hp := (presented_of_present hin).1
  cases hr : respond (decode w) with
  | some r =>
    have hop : opField w ≠ 0b11#2 := fun h => by simp [respond_decode_eq_none_iff.2 h] at hr
    simp [step_of_respond_some hp hr, hin, answerOf, hr, hop]
  | none => simp [step_of_respond_none hp hr, hin, answerOf, hr, respond_decode_eq_none_iff.1 hr]

end Sys2Proof.Machine
end

section
/-! The statements of 20_memory.md: the frame of the answered requests (R36) and the run of a sequence of words (R39). -/

namespace Sys2Proof.Machine

/-- Settles O17: the request's meaning is `State.answer` with its response. -/
theorem answeredRequestsChangeOnlyTheHistory : Obligations.AnsweredRequestsChangeOnlyTheHistory := by
  intro i s t hi h
  obtain ⟨r, hr, he⟩ := exec_eq_next_answer hi s
  obtain rfl : s.answer r = t := Host.Outcome.next.inj (he.symm.trans h)
  exact ⟨answer_refused r s, answer_inputs r s, fun w hp => ⟨r, hr, answer_history_of_presented hp⟩,
    answer_of_not_presented⟩

/-- Settles O51, by induction on the words: the first step appends the first word's pair, the run of the others starts
from the state it leaves. -/
theorem runAnswersRequestsInOrder : Obligations.RunAnswersRequestsInOrder := by
  intro ws rest
  induction ws with
  | nil =>
    rintro ⟨history, refused, inputs⟩ rfl
    simp [Host.Core.run]
  | cons w ws ih =>
    intro s hin
    have hrun := (run_of_step (M := Sys2Proof.core) ws.length (step_of_present hin)).trans (ih _ rfl)
    have hpairs : (w :: ws).filterMap answerOf = (answerOf w).toList ++ ws.filterMap answerOf := by
      cases h : answerOf w <;> simp [h]
    rw [hpairs, List.any_cons, ← List.append_assoc, ← Bool.or_assoc]
    exact hrun

end Sys2Proof.Machine
end

section
/-! The fields of a request word (30_encoding.md R44, R46-R50): what each reads of an assembled word, and that the
fields together are the word. -/

namespace Sys2Proof

section Fields

open BitVec

variable (op : BitVec 2) (ok : Bit) (rsv : BitVec 5) (count : Byte) (payload : BitVec 48)

@[simp] theorem opField_requestWord : opField (requestWord op ok rsv count payload) = op := by
  simp [opField, requestWord, extractLsb'_append_eq_of_le (w := 48), extractLsb'_append_eq_of_le (w := 8),
    extractLsb'_append_eq_of_le (w := 5), extractLsb'_append_eq_left (w' := 1)]

@[simp] theorem okField_requestWord : okField (requestWord op ok rsv count payload) = ok := by
  simp [okField, requestWord, extractLsb'_append_eq_of_le (w := 48), extractLsb'_append_eq_of_le (w := 8),
    extractLsb'_append_eq_of_le (w := 5), extractLsb'_append_eq_of_add_le (w := 1)]

@[simp] theorem countField_requestWord : countField (requestWord op ok rsv count payload) = count := by
  simp [countField, requestWord, extractLsb'_append_eq_of_le (w := 48), extractLsb'_append_eq_of_add_le (w := 8)]

@[simp] theorem payloadField_requestWord : payloadField (requestWord op ok rsv count payload) = payload :=
  extractLsb'_append_eq_right

end Fields

/-- R44: the five fields, side by side, are the whole word. -/
theorem requestWord_of_fields (w : Word) :
    requestWord (opField w) (okField w) (rsvField w) (countField w) (payloadField w) = w := by
  simp only [requestWord, opField, okField, rsvField, countField, payloadField,
    BitVec.extractLsb'_append_extractLsb'_eq_extractLsb', BitVec.extractLsb'_eq_self]

/-- R46, R47: the payload of a CRC8 word is 24 unused bits, the data word, and the byte that CRC8_VERIFY compares. -/
theorem payloadField_eq_unused_data_rxCrc (w : Word) :
    payloadField w = (payloadField w).extractLsb' 24 24 ++ dataField w ++ rxCrcField w := by
  simp only [dataField, rxCrcField, BitVec.extractLsb'_append_extractLsb'_eq_extractLsb', BitVec.extractLsb'_eq_self]

/-- R49: the payload of a frame word is its six bytes and nothing else. -/
theorem payload_frameField (w : Word) : (frameField w).payload = payloadField w := by
  simp only [Frame.payload, frameField, frameByte, Nat.reduceMul, Nat.reduceSub,
    BitVec.extractLsb'_append_extractLsb'_eq_extractLsb', BitVec.extractLsb'_eq_self]

end Sys2Proof
end

section
/-! Decoding an encoded request (30_encoding.md R58, R61): the decoder by the op bits, then the operands of each op. -/

namespace Sys2Proof

section ByOp

variable {w : Word}

theorem decode_of_op0 (h : opField w = 0b00#2) : decode w = .crc8Compute (dataField w) := by
  simp [decode, h]

theorem decode_of_op1 (h : opField w = 0b01#2) : decode w = .crc8Verify (dataField w) (rxCrcField w) := by
  simp [decode, h]

theorem decode_of_op2 (h : opField w = 0b10#2) :
    decode w = .frameValidate (okField w) (countField w) (frameField w) := by
  simp [decode, h]

/-- R45: the four values of the op bits, the case split of the decoder. -/
theorem opField_cases (w : Word) :
    opField w = 0b00#2 ∨ opField w = 0b01#2 ∨ opField w = 0b10#2 ∨ opField w = 0b11#2 := by
  have hall : ∀ op : BitVec 2, op = 0b00#2 ∨ op = 0b01#2 ∨ op = 0b10#2 ∨ op = 0b11#2 := by decide
  exact hall (opField w)

end ByOp

section Payloads

open BitVec

variable (op : BitVec 2) (ok : Bit) (rsv : BitVec 5) (count : Byte) (unused : BitVec 24) (data : Data) (rxCrc : Byte)

@[simp] theorem dataField_requestWord :
    dataField (requestWord op ok rsv count (unused ++ data ++ rxCrc)) = data := by
  simp [dataField, extractLsb'_append_eq_of_le (w := 8), extractLsb'_append_eq_of_add_le (w := 16)]

@[simp] theorem rxCrcField_requestWord :
    rxCrcField (requestWord op ok rsv count (unused ++ data ++ rxCrc)) = rxCrc := by
  simp [rxCrcField, extractLsb'_append_eq_of_add_le (w := 8)]

@[simp] theorem frameField_requestWord (b : Frame) : frameField (requestWord op ok rsv count b.payload) = b := by
  simp [frameField, frameByte, Frame.payload, extractLsb'_append_eq_of_le (w := 8),
    extractLsb'_append_eq_of_add_le (w := 8)]

end Payloads

/-- Settles O20: the op bits of the assembled word choose the branch, and each field reads its operand back. -/
theorem decodeInvertsEncode : Obligations.DecodeInvertsEncode := by
  intro i
  cases i with
  | crc8Compute data => rw [encode, decode_of_op0 (by simp), dataField_requestWord]
  | crc8Verify data rxCrc =>
    rw [encode, decode_of_op1 (by simp), dataField_requestWord, rxCrcField_requestWord]
  | frameValidate ok count b =>
    rw [encode, decode_of_op2 (by simp), okField_requestWord, countField_requestWord, frameField_requestWord]
  | reservedOp3 => exact Machine.decode_eq_reservedOp3_iff.2 (opField_requestWord ..)

end Sys2Proof
end

section
/-! Masking a word with the bits its opcode-table row uses keeps the operands and clears the rest (30_encoding.md
R51). -/

namespace Sys2Proof

variable (w : Word)

theorem requestWord_and_requestWord (op op' : BitVec 2) (ok ok' : Bit) (rsv rsv' : BitVec 5) (count count' : Byte)
    (payload payload' : BitVec 48) :
    requestWord op ok rsv count payload &&& requestWord op' ok' rsv' count' payload' =
      requestWord (op &&& op') (ok &&& ok') (rsv &&& rsv') (count &&& count') (payload &&& payload') := by
  simp only [requestWord, ← BitVec.and_append]

/-- A mask on a word is a mask on each field. -/
theorem and_requestWord (op : BitVec 2) (ok : Bit) (rsv : BitVec 5) (count : Byte) (payload : BitVec 48) :
    w &&& requestWord op ok rsv count payload =
      requestWord (opField w &&& op) (okField w &&& ok) (rsvField w &&& rsv) (countField w &&& count)
        (payloadField w &&& payload) := by
  rw [← requestWord_and_requestWord, requestWord_of_fields]

/-- A mask on a CRC8 payload is a mask on each of its parts. -/
theorem payloadField_and (unused : BitVec 24) (data : Data) (rxCrc : Byte) :
    payloadField w &&& (unused ++ data ++ rxCrc) =
      ((payloadField w).extractLsb' 24 24 &&& unused) ++ (dataField w &&& data) ++ (rxCrcField w &&& rxCrc) := by
  rw [← BitVec.and_append, ← BitVec.and_append, ← payloadField_eq_unused_data_rxCrc]

theorem and_used_crc8Compute :
    w &&& rowCrc8Compute.used = requestWord (opField w) 0 0 0 ((0 : BitVec 24) ++ dataField w ++ (0 : Byte)) := by
  have hused : rowCrc8Compute.used =
      requestWord (.allOnes 2) 0 0 0 ((0 : BitVec 24) ++ BitVec.allOnes 16 ++ (0 : Byte)) := by decide
  rw [hused, and_requestWord, payloadField_and]
  simp only [BitVec.and_allOnes, BitVec.and_zero, BitVec.ofNat_eq_ofNat]

theorem and_used_crc8Verify :
    w &&& rowCrc8Verify.used = requestWord (opField w) 0 0 0 ((0 : BitVec 24) ++ dataField w ++ rxCrcField w) := by
  have hused : rowCrc8Verify.used =
      requestWord (.allOnes 2) 0 0 0 ((0 : BitVec 24) ++ BitVec.allOnes 16 ++ BitVec.allOnes 8) := by decide
  rw [hused, and_requestWord, payloadField_and]
  simp only [BitVec.and_allOnes, BitVec.and_zero, BitVec.ofNat_eq_ofNat]

theorem and_used_frameValidate :
    w &&& rowFrameValidate.used = requestWord (opField w) (okField w) 0 (countField w) (frameField w).payload := by
  have hused : rowFrameValidate.used = requestWord (.allOnes 2) (.allOnes 1) 0 (.allOnes 8) (.allOnes 48) := by decide
  rw [hused, and_requestWord, payload_frameField]
  simp only [BitVec.and_allOnes, BitVec.and_zero, BitVec.ofNat_eq_ofNat]

theorem and_used_reservedOp3 : w &&& rowReservedOp3.used = requestWord (opField w) 0 0 0 0 := by
  have hused : rowReservedOp3.used = requestWord (.allOnes 2) 0 0 0 0 := by decide
  rw [hused, and_requestWord]
  simp only [BitVec.and_allOnes, BitVec.and_zero, BitVec.ofNat_eq_ofNat]

/-- Settles O21: for each op, the masked word is assembled from the fields that the decoder reads. -/
theorem encodeOfDecodeClearsIgnoredBits : Obligations.EncodeOfDecodeClearsIgnoredBits := by
  intro w
  obtain h | h | h | h := opField_cases w
  · rw [decode_of_op0 h, Instr.row, and_used_crc8Compute, h, encode]
  · rw [decode_of_op1 h, Instr.row, and_used_crc8Verify, h, encode]
  · rw [decode_of_op2 h, Instr.row, and_used_frameValidate, h, encode]
  · rw [Machine.decode_eq_reservedOp3_iff.2 h, Instr.row, and_used_reservedOp3, h, encode]

end Sys2Proof
end

section
/-! The opcode table: a row accepts a word by its op bits alone (30_encoding.md R45), so the bits an operation ignores
have no effect (R51). -/

namespace Sys2Proof

section Rows

variable (w : Word)

/-- The shape that every row's `match` and `mask` have: the mask keeps the op bits and nothing else. -/
theorem accepts_iff_opField {row : OpcodeRow} {op : BitVec 2} (hmask : row.mask = requestWord (.allOnes 2) 0 0 0 0)
    (hvalue : row.value = requestWord op 0 0 0 0) : row.accepts w = true ↔ opField w = op := by
  rw [OpcodeRow.accepts, beq_iff_eq, hmask, hvalue, and_requestWord]
  simp only [BitVec.and_allOnes, BitVec.and_zero, BitVec.ofNat_eq_ofNat]
  exact ⟨fun h => by simpa using congrArg opField h, fun h => by rw [h]⟩

@[simp] theorem rowCrc8Compute_accepts : rowCrc8Compute.accepts w = true ↔ opField w = 0b00#2 :=
  accepts_iff_opField w (by decide) (by decide)

@[simp] theorem rowCrc8Verify_accepts : rowCrc8Verify.accepts w = true ↔ opField w = 0b01#2 :=
  accepts_iff_opField w (by decide) (by decide)

@[simp] theorem rowFrameValidate_accepts : rowFrameValidate.accepts w = true ↔ opField w = 0b10#2 :=
  accepts_iff_opField w (by decide) (by decide)

@[simp] theorem rowReservedOp3_accepts : rowReservedOp3.accepts w = true ↔ opField w = 0b11#2 :=
  accepts_iff_opField w (by decide) (by decide)

end Rows

/-- Settles O24: the four rows ask for the four values of the op bits. -/
theorem exactlyOneTableRowAcceptsEachWord : Obligations.ExactlyOneTableRowAcceptsEachWord := by
  intro w
  obtain h | h | h | h := opField_cases w
  · simp [opcodeTable, h, decode_of_op0 h, Instr.row]
  · simp [opcodeTable, h, decode_of_op1 h, Instr.row]
  · simp [opcodeTable, h, decode_of_op2 h, Instr.row]
  · simp [opcodeTable, h, Machine.decode_eq_reservedOp3_iff.2 h, Instr.row]

/-- Encoding a decoded word loses nothing the decoder reads. -/
theorem decode_and_used (w : Word) : decode (w &&& (decode w).row.used) = decode w := by
  rw [← encodeOfDecodeClearsIgnoredBits w, decodeInvertsEncode]

/-- Every operation uses the op bits. -/
theorem opField_and_used (i : Instr) (w : Word) : opField (w &&& i.row.used) = opField w := by
  cases i <;> simp [Instr.row, and_used_crc8Compute, and_used_crc8Verify, and_used_frameValidate, and_used_reservedOp3]

/-- Words with the same op bits have the same row. -/
theorem row_decode_eq_of_opField_eq {w v : Word} (h : opField v = opField w) : (decode v).row = (decode w).row := by
  simp only [decode, h]
  split_ifs <;> rfl

/-- Words that differ in no bit of a mask agree under it. -/
theorem and_eq_and_of_xor_and_eq_zero {w v m : Word} (h : (w ^^^ v) &&& m = 0) : v &&& m = w &&& m := by
  have hdistrib : (w ^^^ v) &&& m = (w &&& m) ^^^ (v &&& m) :=
    BitVec.eq_of_toNat_eq (by simp [Nat.and_xor_distrib_right])
  exact (BitVec.xor_eq_zero_iff.1 (hdistrib.symm.trans h)).symm

/-- Settles O22: words that agree in the used bits have the same op, hence the same row, and decode as their common
masked word does. -/
theorem ignoredBitsHaveNoEffect : Obligations.IgnoredBitsHaveNoEffect := by
  intro w v h
  have hused : v &&& (decode w).row.used = w &&& (decode w).row.used := and_eq_and_of_xor_and_eq_zero h
  have hop : opField v = opField w := by
    rw [← opField_and_used (decode w) v, hused, opField_and_used]
  have hdecode : decode v = decode w := by
    rw [← decode_and_used v, row_decode_eq_of_opField_eq hop, hused, decode_and_used]
  refine ⟨hdecode, by rw [decodeRequest, hdecode, decodeRequest], ?_⟩
  simp [Machine.answerOf, hdecode, Function.comp_def]

end Sys2Proof
end

section
/-! What `decodeRequest` answers for each value of the op bits (30_encoding.md R52, R53, R61). -/

namespace Sys2Proof

variable {w : Word}

theorem decodeRequest_eq_ok (h : opField w ≠ 0b11#2) : decodeRequest w = .ok (decode w) := by
  rw [decodeRequest, Machine.refusal_eq_none_iff.2 (mt Machine.decode_eq_reservedOp3_iff.1 h)]

theorem decodeRequest_eq_error (h : opField w = 0b11#2) : decodeRequest w = .error .reservedOp := by
  rw [decodeRequest, Machine.decode_eq_reservedOp3_iff.2 h, Instr.refusal]

/-- The one illegal request is the reserved op. -/
theorem wellFormed_iff {i : Instr} : i.wellFormed = true ↔ i ≠ .reservedOp3 := by
  cases i <;> simp [Instr.wellFormed]

/-- Settles O25: a word whose op bits are not 11 decodes to a request other than the reserved op. -/
theorem everyWordButOpThreeIsLegal : Obligations.EveryWordButOpThreeIsLegal := by
  intro w h
  have hne : decode w ≠ .reservedOp3 := mt Machine.decode_eq_reservedOp3_iff.1 h
  obtain ⟨r, hr⟩ := Option.ne_none_iff_exists'.1 (mt Machine.respond_eq_none_iff.1 hne)
  exact ⟨decodeRequest_eq_ok h, wellFormed_iff.2 hne, r, by rw [Machine.answerOf, hr, Option.map_some]⟩

section FieldIndices

variable (w)

theorem dataField_eq : dataField w = w.extractLsb' 8 16 :=
  BitVec.extractLsb'_extractLsb'_of_le (by decide)

theorem rxCrcField_eq : rxCrcField w = w.extractLsb' 0 8 :=
  BitVec.extractLsb'_extractLsb'_of_le (by decide)

theorem frameByte_eq (i : Nat) : frameByte w i = w.extractLsb' (40 - 8 * i) 8 :=
  BitVec.extractLsb'_extractLsb'_of_le (by omega)

end FieldIndices

/-- Settles O23: the operand fields of R46, R47 and R49 are read of the payload, which starts at bit 0 of the word. -/
theorem decoderReadsTheStatedFields : Obligations.DecoderReadsTheStatedFields := by
  intro w
  refine ⟨fun h => ?_, fun h => ?_, fun h => ?_, decodeRequest_eq_error⟩
  · rw [decodeRequest_eq_ok (by simp [opField, h]), decode_of_op0 h, dataField_eq]
  · rw [decodeRequest_eq_ok (by simp [opField, h]), decode_of_op1 h, dataField_eq, rxCrcField_eq]
  · rw [decodeRequest_eq_ok (by simp [opField, h]), decode_of_op2 h, okField, countField, frameField]
    simp [frameByte_eq]

/-- Settles O26: the four words of V5, V6, F12 and V8 are closed, and the decoder computes on them. -/
theorem specWordsDecode : Obligations.SpecWordsDecode :=
  ⟨by decide, by decide, by decide, by decide⟩

end Sys2Proof
end

section
/-! The reserved op's meaning is the shared `State.refuse` (30_encoding.md R52, 10_state.md R28). -/

namespace Sys2Proof.Machine

theorem exec_reservedOp3 (s : State) : exec .reservedOp3 s = .next s.refuse := exec_eq .reservedOp3 s

/-- Settles O12: `State.refuse` sets the mark in the record and nothing else. -/
theorem reservedOpSetsTheRefusedMark : Obligations.ReservedOpSetsTheRefusedMark := exec_reservedOp3

/-- Settles O18: the last response is read of the history, which a refusal keeps. -/
theorem refusedRequestChangesOnlyTheMark : Obligations.RefusedRequestChangesOnlyTheMark := by
  intro s t h
  obtain rfl : s.refuse = t := Host.Outcome.next.inj ((exec_reservedOp3 s).symm.trans h)
  exact ⟨refuse_history s, refuse_inputs s, refuse_refused s,
    by rw [State.lastResponse, refuse_history, State.lastResponse]⟩

end Sys2Proof.Machine
end

section
/-! The response ports: which ones each operation drives to 0 (30_encoding.md R54, R55), and where the packed view
holds each (R62). -/

namespace Sys2Proof.Machine

section Ports

variable {p : Port}

theorem port_crc8ComputeResponse (data : Data) (hp : p ≠ .rspCrc) : (crc8ComputeResponse data).port p = 0 := by
  cases p <;> simp [crc8ComputeResponse, Response.zero, Response.port] at hp ⊢

theorem port_crc8VerifyResponse (data : Data) (rxCrc : Byte) (hp : p ≠ .rspCrc ∧ p ≠ .rspMatch) :
    (crc8VerifyResponse data rxCrc).port p = 0 := by
  cases p <;> simp [crc8VerifyResponse, Response.zero, Response.port] at hp ⊢

/-- FRAME_VALIDATE leaves the two CRC8 ports alone, whatever its groups carry. -/
theorem port_frameResponse (ok : Bit) (count : Byte) (b : Frame) (hp : p = .rspCrc ∨ p = .rspMatch) :
    (frameResponse ok count b).port p = 0 := by
  obtain rfl | rfl := hp <;> rfl

end Ports

/-- Settles O27: each operation's response starts from `Response.zero` and sets only the ports of its list. -/
theorem unwrittenPortsAreZero : Obligations.UnwrittenPortsAreZero := by
  intro i r p hr hp
  cases i with
  | crc8Compute data =>
    obtain rfl := Option.some.inj hr
    exact port_crc8ComputeResponse data (by simpa [portsWritten] using hp)
  | crc8Verify data rxCrc =>
    obtain rfl := Option.some.inj hr
    exact port_crc8VerifyResponse data rxCrc (by simpa [portsWritten] using hp)
  | frameValidate ok count b =>
    obtain rfl := Option.some.inj hr
    refine port_frameResponse ok count b ?_
    cases p <;> simp [portsWritten] at hp ⊢
  | reservedOp3 => cases hr

section Packed

open BitVec

/-- R62: what each range of the packed view reads, for every response. -/
theorem packed_extractLsb' (r : Response) :
    r.packed.extractLsb' 56 8 = r.rspCrc ∧ r.packed.extractLsb' 55 1 = r.rspMatch ∧
    r.packed.extractLsb' 54 1 = 0#1 ∧ r.packed.extractLsb' 52 2 = r.rspTag1 ∧
    r.packed.extractLsb' 50 2 = r.rspTag2 ∧ r.packed.extractLsb' 48 2 = 0#2 ∧
    r.packed.extractLsb' 32 16 = r.rspVal1 ∧ r.packed.extractLsb' 24 8 = r.rspCalc1 ∧
    r.packed.extractLsb' 8 16 = r.rspVal2 ∧ r.packed.extractLsb' 0 8 = r.rspCalc2 := by
  simp [Response.packed, extractLsb'_append_eq_of_le (w := 8), extractLsb'_append_eq_of_le (w := 16),
    extractLsb'_append_eq_of_le (w := 2), extractLsb'_append_eq_of_le (w := 1),
    extractLsb'_append_eq_of_add_le (w := 8), extractLsb'_append_eq_of_add_le (w := 16),
    extractLsb'_append_eq_of_add_le (w := 2), extractLsb'_append_eq_of_add_le (w := 1)]

/-- Q[47:0]: each group's value, then its CRC. -/
theorem packed_low48 (r : Response) :
    r.packed.extractLsb' 0 48 = r.rspVal1 ++ r.rspCalc1 ++ r.rspVal2 ++ r.rspCalc2 := by
  obtain ⟨_, _, _, _, _, _, hval1, hcalc1, hval2, hcalc2⟩ := packed_extractLsb' r
  rw [← hval1, ← hcalc1, ← hval2, ← hcalc2]
  simp only [extractLsb'_append_extractLsb'_eq_extractLsb']

end Packed

/-- Appending a data word appends its two bytes, the high one first (20_memory.md R29). -/
theorem append_dataOfBytes {n : Nat} (x : BitVec n) (hi lo : Byte) : x ++ dataOfBytes hi lo = x ++ hi ++ lo :=
  BitVec.append_assoc'.trans (BitVec.cast_eq ..)

/-- With `ok = 1` and six bytes each group is checked (41_frame_validator.md R80). -/
theorem groupResult_received (b : Frame) (g : GroupIndex) : groupResult 1 6 b g = checkGroup (frameGroup b g) :=
  if_neg (by decide)

/-- Settles O28: a received frame's values are its own byte pairs, so Q[47:0] has the shape of a payload. -/
theorem packedViewHoldsEachPort : Obligations.PackedViewHoldsEachPort := by
  refine ⟨packed_extractLsb', fun b => ?_⟩
  rw [packed_low48]
  simp only [frameResponse, groupResult_received, checkGroup, frameGroup, groupValue, append_dataOfBytes]
  rfl

end Sys2Proof.Machine
end

section
/-! What the assembler accepts, by operation (30_encoding.md R58-R60): an inversion lemma per parser. -/

namespace Sys2Proof.Machine

section Results

variable {ε α β : Type} {x : Except ε α} {b : β}

theorem except_map_eq_ok_iff {f : α → β} : x.map f = .ok b ↔ ∃ a, x = .ok a ∧ f a = b := by
  cases x <;> simp [Except.map]

theorem except_bind_eq_ok_iff {f : α → Except ε β} : x >>= f = .ok b ↔ ∃ a, x = .ok a ∧ f a = .ok b := by
  cases x <;> simp [bind, Except.bind]

end Results

variable {ts : List Token} {i : Instr}

theorem asmCompute_eq_ok (h : asmCompute ts = .ok i) : ∃ data, i = .crc8Compute data := by
  unfold asmCompute at h
  split at h
  · obtain ⟨data, _, rfl⟩ := except_map_eq_ok_iff.1 h
    exact ⟨data, rfl⟩
  · cases h

theorem asmVerify_eq_ok (h : asmVerify ts = .ok i) : ∃ data rxCrc, i = .crc8Verify data rxCrc := by
  unfold asmVerify at h
  split at h
  · obtain ⟨data, _, h⟩ := except_bind_eq_ok_iff.1 h
    obtain ⟨rxCrc, _, h⟩ := except_bind_eq_ok_iff.1 h
    exact ⟨data, rxCrc, (Except.ok.inj h).symm⟩
  · cases h

theorem asmValidate_eq_ok (h : asmValidate ts = .ok i) :
    ∃ b c k count ok, frameOperand (operandList ts).1 = .ok b ∧ (operandList ts).2 = [.word c, .word k] ∧
      countOperand c = .ok count ∧ okOperand k = .ok ok ∧ i = .frameValidate ok count b := by
  simp only [asmValidate] at h
  split at h
  · rename_i b c k hframe hrest
    obtain ⟨count, hcount, h⟩ := except_bind_eq_ok_iff.1 h
    obtain ⟨ok, hok, h⟩ := except_bind_eq_ok_iff.1 h
    exact ⟨b, c, k, count, ok, hframe, hrest, hcount, hok, (Except.ok.inj h).symm⟩
  · cases h
  · cases h

theorem asmCheck_eq_ok (h : asmCheck ts = .ok i) :
    ∃ b, frameOperand (operandList ts).1 = .ok b ∧ (operandList ts).2 = [] ∧ i = .frameValidate 1 6 b := by
  simp only [asmCheck] at h
  split at h
  · rename_i b hframe hrest
    exact ⟨b, hframe, hrest, (Except.ok.inj h).symm⟩
  · cases h
  · cases h

/-- A line that spells a request is one of the four mnemonics and its operands. -/
theorem asmTokens_eq_ok_some (h : asmTokens ts = .ok (some i)) :
    ∃ ops, asmCompute ops = .ok i ∨ asmVerify ops = .ok i ∨ asmValidate ops = .ok i ∨ asmCheck ops = .ok i := by
  cases ts with
  | nil => cases h
  | cons t ops =>
    cases t with
    | comma => cases h
    | word m =>
      have hsome {x : Except AsmError Instr} (hx : x.map some = .ok (some i)) : x = .ok i := by
        obtain ⟨j, rfl, hj⟩ := except_map_eq_ok_iff.1 hx
        rw [Option.some.inj hj]
      rw [asmTokens] at h
      split_ifs at h
      · exact ⟨ops, .inl (hsome h)⟩
      · exact ⟨ops, .inr (.inl (hsome h))⟩
      · exact ⟨ops, .inr (.inr (.inl (hsome h)))⟩
      · exact ⟨ops, .inr (.inr (.inr (hsome h)))⟩

/-- Settles O53: each of the four parsers builds a request of its own operation. -/
theorem linesSpellOnlyLegalRequests : Obligations.LinesSpellOnlyLegalRequests := by
  intro line i h
  obtain ⟨ops, h | h | h | h⟩ := asmTokens_eq_ok_some h
  · obtain ⟨_, rfl⟩ := asmCompute_eq_ok h
    rfl
  · obtain ⟨_, _, rfl⟩ := asmVerify_eq_ok h
    rfl
  · obtain ⟨_, _, _, _, _, _, _, _, _, rfl⟩ := asmValidate_eq_ok h
    rfl
  · obtain ⟨_, _, _, rfl⟩ := asmCheck_eq_ok h
    rfl

end Sys2Proof.Machine
end

section
/-! The operands of a frame line, token by token (30_encoding.md R58-R60). -/

namespace Sys2Proof.Machine

variable {cs : List Char}

/-- The literals of an operand list with one comma between each two, then the tokens after it, are all its tokens. -/
theorem operandList_tokens (ts : List Token) :
    ((operandList ts).1.map Token.word).intersperse .comma ++ (operandList ts).2 = ts := by
  induction ts using operandList.induct with
  | case1 b rest r hr => simp [operandList, r, hr]
  | case2 b rest r hr ih =>
    obtain ⟨c, cs, hcs⟩ : ∃ c cs, (operandList rest).1 = c :: cs :=
      List.exists_cons_of_ne_nil (mt List.isEmpty_iff.2 hr)
    have hlist : operandList (.word b :: .comma :: rest) = (b :: c :: cs, (operandList rest).2) := by
      simp [operandList, hcs]
    rw [hcs] at ih
    rw [hlist]
    exact congrArg (fun tokens => Token.word b :: .comma :: tokens) ih
  | case3 b rest h => simp [operandList]
  | case4 ts h => simp [operandList]

theorem frameOperand_eq_ok {ls : List (List Char)} {b : Frame} (h : frameOperand ls = .ok b) :
    ∃ c0 c1 c2 c3 c4 c5, ls = [c0, c1, c2, c3, c4, c5] := by
  unfold frameOperand at h
  split at h
  · exact ⟨_, _, _, _, _, _, rfl⟩
  · cases h

theorem afterKey_eq_some {key ds : List Char} (h : afterKey key cs = some ds) : cs = key ++ ds := by
  unfold afterKey at h
  split_ifs at h with hkey
  rw [← Option.some.inj h]
  exact (List.prefix_iff_eq_append.1 (List.isPrefixOf_iff_prefix.1 hkey)).symm

theorem countOperand_eq_ok {count : Byte} (h : countOperand cs = .ok count) : ∃ n, cs = "count=".toList ++ n := by
  unfold countOperand at h
  split at h
  · cases h
  · exact ⟨_, afterKey_eq_some ‹_›⟩

theorem okOperand_eq_ok {ok : Bit} (h : okOperand cs = .ok ok) : ∃ k, cs = "ok=".toList ++ k := by
  unfold okOperand at h
  split at h
  · cases h
  · exact ⟨_, afterKey_eq_some ‹_›⟩

/-- Settles O59: the accepted operands are six literals, and `operandList_tokens` puts the tokens back together. -/
theorem acceptedFrameLinesHaveTheStatedForm : Obligations.AcceptedFrameLinesHaveTheStatedForm := by
  intro ts i
  have htokens := operandList_tokens ts
  refine ⟨fun h => ?_, fun h => ?_⟩
  · obtain ⟨b, hframe, hrest, -⟩ := asmCheck_eq_ok h
    obtain ⟨c0, c1, c2, c3, c4, c5, hls⟩ := frameOperand_eq_ok hframe
    rw [hls, hrest] at htokens
    exact ⟨c0, c1, c2, c3, c4, c5, htokens.symm⟩
  · obtain ⟨b, c, k, count, ok, hframe, hrest, hcount, hok, -⟩ := asmValidate_eq_ok h
    obtain ⟨c0, c1, c2, c3, c4, c5, hls⟩ := frameOperand_eq_ok hframe
    obtain ⟨n, rfl⟩ := countOperand_eq_ok hcount
    obtain ⟨k, rfl⟩ := okOperand_eq_ok hok
    rw [hls, hrest] at htokens
    exact ⟨c0, c1, c2, c3, c4, c5, n, k, htokens.symm⟩

theorem asmTokens_validate (ops : List Token) :
    asmTokens (.word mnemonicValidate :: ops) = (asmValidate ops).map some := by
  rw [asmTokens, if_neg (by decide), if_neg (by decide), if_pos rfl]

theorem asmTokens_check (ops : List Token) : asmTokens (.word mnemonicCheck :: ops) = (asmCheck ops).map some := by
  rw [asmTokens, if_neg (by decide), if_neg (by decide), if_neg (by decide), if_pos rfl]

/-- `asmCheck` is `asmValidate` where the operand list is the same and `count=6 ok=1` is all that follows it. -/
theorem asmCheck_eq_asmValidate {ts ts' : List Token} (hls : (operandList ts).1 = (operandList ts').1)
    (hrest : (operandList ts).2 = [])
    (hrest' : (operandList ts').2 = [.word "count=6".toList, .word "ok=1".toList]) :
    asmCheck ts = asmValidate ts' := by
  have hcount : countOperand "count=6".toList = .ok 6 := by decide
  have hok : okOperand "ok=1".toList = .ok 1 := by decide
  rw [asmCheck, asmValidate, hls, hrest, hrest']
  cases frameOperand (operandList ts').1 with
  | error e => rfl
  | ok b => simp only [hcount, hok]; rfl

/-- Settles O54: both operand lists hold the six bytes, whatever they are. -/
theorem frameCheckExpandsToFrameValidate : Obligations.FrameCheckExpandsToFrameValidate := by
  intro c0 c1 c2 c3 c4 c5 bytes
  rw [List.cons_append, asmTokens_check, asmTokens_validate]
  exact congrArg (Except.map some) (asmCheck_eq_asmValidate rfl rfl rfl)

end Sys2Proof.Machine
end

section
/-! The byte step of 40_crc8.md R63 is XOR-linear (R70) and takes only 0 to 0, so it is a bijection of bytes. -/

namespace Sys2Proof.Machine

variable {a : Byte}

theorem xor_xor_xor_comm (a b c d : Byte) : (a ^^^ b) ^^^ (c ^^^ d) = (a ^^^ c) ^^^ (b ^^^ d) := by
  ac_rfl

theorem stepBit_eq_xor (a : Byte) : stepBit a = a <<< 1 ^^^ if a.getLsbD 7 then Config.crcPoly else 0 := by
  unfold stepBit
  split <;> simp

theorem stepBit_xor (a b : Byte) : stepBit (a ^^^ b) = stepBit a ^^^ stepBit b := by
  have hpoly (x y : Bool) : (if x ^^ y then Config.crcPoly else 0) =
      (if x then Config.crcPoly else 0) ^^^ if y then Config.crcPoly else 0 := by
    cases x <;> cases y <;> simp
  simp only [stepBit_eq_xor, BitVec.getLsbD_xor, BitVec.shiftLeft_xor_distrib, hpoly]
  exact xor_xor_xor_comm ..

theorem stepBits_xor (n : Nat) (a b : Byte) : stepBits n (a ^^^ b) = stepBits n a ^^^ stepBits n b := by
  induction n generalizing a b with
  | zero => rfl
  | succ n ih => rw [stepBits_succ, stepBit_xor, ih, ← stepBits_succ, ← stepBits_succ]

theorem step8_xor (a b : Byte) : step8 (a ^^^ b) = step8 a ^^^ step8 b := stepBits_xor Config.crcWidth a b

/-- The polynomial ends in a 1, so a shift that XORs it in leaves bit 0 set; one that does not drops no bit. -/
theorem eq_zero_of_stepBit_eq_zero (h : stepBit a = 0) : a = 0 := by
  unfold stepBit at h
  split at h
  · have hbit : (a <<< 1 ^^^ Config.crcPoly).getLsbD 0 = true := by simp [Config.crcPoly]
    simp [h] at hbit
  · rename_i htop
    refine BitVec.eq_of_getLsbD_eq fun i hi => ?_
    have hbit : (a <<< 1).getLsbD (i + 1) = false := by simp [h]
    by_cases h7 : i = 7
    · simpa [h7] using htop
    · simpa [hi, show i + 1 < 8 by omega] using hbit

theorem eq_zero_of_stepBits_eq_zero (n : Nat) (h : stepBits n a = 0) : a = 0 := by
  induction n generalizing a with
  | zero => exact h
  | succ n ih => exact eq_zero_of_stepBit_eq_zero (ih h)

theorem step8_zero : step8 0 = 0 := by
  simpa using step8_xor 0 0

theorem step8_eq_zero_iff : step8 a = 0 ↔ a = 0 :=
  ⟨eq_zero_of_stepBits_eq_zero Config.crcWidth, fun h => h ▸ step8_zero⟩

theorem step8_injective : Function.Injective step8 := by
  intro a b h
  rw [← xor_eq_zero_iff, ← step8_xor, step8_eq_zero_iff, xor_eq_zero_iff] at h
  exact h

theorem step8_surjective : Function.Surjective step8 := Finite.surjective_of_injective step8_injective

theorem stepBits_eq_iterate (n : Nat) : stepBits n = stepBit^[n] := by
  induction n with
  | zero => rfl
  | succ n ih => funext a; rw [stepBits_succ, ih, Function.iterate_succ_apply]

/-- Settles O29: `stepBits` is the iterate, and the polynomial has no bit that a ninth bit could meet. -/
theorem step8IsEightShiftXors : Obligations.Step8IsEightShiftXors := by
  intro a
  have hbit : stepBit = fun x : Byte => if x.msb = true then (x <<< 1) ^^^ 0x31 else x <<< 1 := by
    funext x
    rw [BitVec.msb_eq_getLsbD_last]
    rfl
  refine ⟨?_, ?_⟩
  · rw [← hbit, step8, stepBits_eq_iterate, Config.crcWidth]
  · rw [BitVec.setWidth_xor, BitVec.setWidth_shiftLeft_of_le (by decide), BitVec.setWidth_setWidth_of_le _ (by decide),
      BitVec.setWidth_eq]
    rfl

end Sys2Proof.Machine
end

section
/-! A data word as its two bytes, and the reference CRC in terms of them (40_crc8.md R64, R72, R73). -/

namespace Sys2Proof.Machine

variable {d e : Data}

@[simp] theorem dataOfBytes_highByte_lowByte (d : Data) : dataOfBytes (highByte d) (lowByte d) = d := by
  simp only [dataOfBytes, highByte, lowByte, BitVec.extractLsb'_append_extractLsb'_eq_extractLsb',
    BitVec.extractLsb'_eq_self]

theorem eq_dataOfBytes_iff {hi lo : Byte} : d = dataOfBytes hi lo ↔ highByte d = hi ∧ lowByte d = lo := by
  constructor
  · rintro rfl
    exact ⟨highByte_dataOfBytes hi lo, lowByte_dataOfBytes hi lo⟩
  · rintro ⟨rfl, rfl⟩
    exact (dataOfBytes_highByte_lowByte d).symm

/-- Settles O30: the definition of `crc8` is those six steps. -/
theorem referenceCrcFollowsTheSixSteps : Obligations.ReferenceCrcFollowsTheSixSteps := fun _ => rfl

/-- Settles O39: the seven words are closed, and `crc8` computes on them. -/
theorem goldenCrcValues : Obligations.GoldenCrcValues := by
  unfold Obligations.GoldenCrcValues
  decide +kernel

/-- Settles O40: an XOR is 0 only between equal bytes, and `step8 0` is 0. -/
theorem onlyOneInputClearsTheAccumulator : Obligations.OnlyOneInputClearsTheAccumulator := by
  intro d
  change (0xFF ^^^ highByte d = 0 ∧ step8 (0xFF ^^^ highByte d) ^^^ lowByte d = 0) ↔ d = dataOfBytes 0xFF 0
  rw [eq_dataOfBytes_iff, xor_eq_zero_iff, xor_eq_zero_iff]
  constructor
  · rintro ⟨hhi, hlo⟩
    rw [← hhi, BitVec.xor_self] at hlo
    exact ⟨hhi.symm, hlo.symm.trans step8_zero⟩
  · rintro ⟨hhi, hlo⟩
    rw [hhi, hlo]
    exact ⟨rfl, step8_zero⟩

/-- What a change of `e` in the data word adds to the CRC: the byte update of R73 run from 0, not from the initial
value. -/
def crcDifference (e : Data) : Byte := step8 (step8 (highByte e) ^^^ lowByte e)

theorem crc8_xor (d e : Data) : crc8 (d ^^^ e) = crc8 d ^^^ crcDifference e := by
  calc crc8 (d ^^^ e)
      = step8 (step8 (Config.crcInit ^^^ highByte d ^^^ highByte e) ^^^ (lowByte d ^^^ lowByte e)) := by
        simp only [crc8, highByte, lowByte, BitVec.extractLsb'_xor, BitVec.xor_assoc]
    _ = step8 (step8 (Config.crcInit ^^^ highByte d) ^^^ lowByte d ^^^ (step8 (highByte e) ^^^ lowByte e)) := by
        rw [step8_xor (Config.crcInit ^^^ highByte d), xor_xor_xor_comm]
    _ = crc8 d ^^^ crcDifference e := step8_xor ..

/-- Settles O33: by `crc8_xor`, a word's CRC is its difference from that of 0x0000. -/
theorem crcIsAffine : Obligations.CrcIsAffine := by
  have hzero : crc8 0x0000 = 0x81 := goldenCrcValues.1
  have hdiff (b : Data) : crcDifference b = crc8 b ^^^ crc8 0x0000 := by
    have h := crc8_xor 0 b
    rw [zero_xor] at h
    rw [h, xor_xor_cancel_comm]
  have haffine (a b : Data) : crc8 (a ^^^ b) = crc8 a ^^^ crc8 b ^^^ crc8 0x0000 := by
    rw [crc8_xor, hdiff, BitVec.xor_assoc]
  refine ⟨haffine, hzero, fun a b => ?_⟩
  rw [haffine, hzero, xor_xor_xor_comm, BitVec.xor_self, BitVec.xor_zero, xor_cancel_right]

theorem rspMatch_crc8VerifyResponse_eq_one_iff {rx : Byte} :
    (crc8VerifyResponse d rx).rspMatch = 1 ↔ crc8 d = rx := by
  simp [crc8VerifyResponse, matchBit]

theorem rspMatch_crc8VerifyResponse_of_ne {rx : Byte} (h : crc8 d ≠ rx) : (crc8VerifyResponse d rx).rspMatch = 0 :=
  if_neg h

/-- The residue of a group is the last byte update of R73, from the CRC of its data word. -/
theorem crcResidue_group_eq_zero_iff {rx : Byte} :
    crcResidue [highByte d, lowByte d, rx] = 0 ↔ crc8 d = rx := by
  have hres : crcResidue [highByte d, lowByte d, rx] = step8 (crc8 d ^^^ rx) :=
    crcResidue_append [highByte d, lowByte d] rx
  rw [hres, step8_eq_zero_iff, xor_eq_zero_iff]

/-- Settles O34: the residue and `rsp_match` both decide whether the received byte is the CRC. -/
theorem residueIsZeroExactlyOnAMatch : Obligations.ResidueIsZeroExactlyOnAMatch := fun _ _ =>
  ⟨crcResidue_group_eq_zero_iff.2 rfl,
    crcResidue_group_eq_zero_iff.trans rspMatch_crc8VerifyResponse_eq_one_iff.symm⟩

end Sys2Proof.Machine
end

section
/-! The table-driven forms of 40_crc8.md R68-R70: a lookup is one `step8`, so either form is the reference. -/

namespace Sys2Proof.Machine

/-- R69: the 256 printed entries. -/
theorem tableT_eq_step8 : ∀ i : Byte, tableT i = step8 i := by decide +kernel

/-- Settles O31: both forms are the same two byte steps. -/
theorem tableFormEqualsReference : Obligations.TableFormEqualsReference :=
  ⟨tableT_eq_step8, fun d => by simp only [crc8Table, tableT_eq_step8, crc8, Config.crcInit]⟩

/-- R70: the 32 printed entries of the nibble tables. -/
theorem nibbleTable_entry : ∀ n : BitVec 4,
    nibbleTableHigh.entry n.toNat = tableT (n.setWidth 8 <<< 4) ∧
    nibbleTableLow.entry n.toNat = tableT (n.setWidth 8) := by decide +kernel

theorem xor_nibbles (i : Byte) :
    ((i.extractLsb' 4 4).setWidth 8 <<< 4) ^^^ (i.extractLsb' 0 4).setWidth 8 = i := by
  refine BitVec.eq_of_getLsbD_eq fun k hk => ?_
  by_cases h : k < 4
  · simp [h, hk]
  · simp [h, hk, show k - 4 < 4 by omega, show 4 + (k - 4) = k by omega]

/-- R70: the two slices rebuild the table because `step8` is linear. -/
theorem nibbleT_eq_tableT (i : Byte) : nibbleT i = tableT i := by
  rw [nibbleT, highNibble, lowNibble, (nibbleTable_entry _).1, (nibbleTable_entry _).2, tableT_eq_step8,
    tableT_eq_step8, ← step8_xor, xor_nibbles, tableT_eq_step8]

/-- Settles O32: with the table rebuilt, the nibble form is the table form. -/
theorem nibbleFormEqualsReference : Obligations.NibbleFormEqualsReference := by
  refine ⟨step8_xor, nibbleTable_entry, nibbleT_eq_tableT, fun d => ?_⟩
  rw [← tableFormEqualsReference.2 d]
  simp only [crc8Nibble, nibbleT_eq_tableT, crc8Table]

end Sys2Proof.Machine
end

section
/-! Detection properties (40_crc8.md R74). The data words with a given CRC, and the undetected error patterns, are one
word for each high byte, so what R74 counts is counted over the 256 bytes. -/

namespace Sys2Proof.Machine

variable {d e : Data}

theorem length_filter_finRange {n : Nat} (p : Fin n → Prop) [DecidablePred p] :
    ((List.finRange n).filter p).length = (Finset.univ.filter p).card := rfl

/-- Counting the data words that an injective `word` makes of the bytes with `q` is counting those bytes. -/
theorem length_filter_data_eq_of_iff_exists_byte {p : Data → Prop} (q : Byte → Prop) (word : Byte → Data)
    [DecidablePred p] [DecidablePred q] (hword : word.Injective) (h : ∀ d, p d ↔ ∃ a, q a ∧ d = word a) :
    ((List.finRange 65536).filter fun d => p (BitVec.ofFin d)).length =
      ((List.finRange 256).filter fun a => q (BitVec.ofFin a)).length := by
  rw [length_filter_finRange, length_filter_finRange]
  refine (Finset.card_bij (fun a _ => (word (BitVec.ofFin a)).toFin) (fun a ha => ?_) (fun a _ b _ hab => ?_)
    (fun d hd => ?_)).symm
  · have hq : q (BitVec.ofFin a) := by simpa using ha
    simpa using (h _).2 ⟨_, hq, rfl⟩
  · simpa using hword (BitVec.eq_of_toFin_eq hab)
  · obtain ⟨a, hq, hd⟩ := (h (BitVec.ofFin d)).1 (by simpa using hd)
    exact ⟨a.toFin, by simpa using hq, (congrArg BitVec.toFin hd).symm⟩

/-- The word under a high byte whose CRC is `step8 acc`. -/
def wordReaching (acc hi : Byte) : Data := dataOfBytes hi (step8 (Config.crcInit ^^^ hi) ^^^ acc)

theorem wordReaching_injective (acc : Byte) : (wordReaching acc).Injective :=
  Function.LeftInverse.injective fun hi => highByte_dataOfBytes hi _

theorem crc8_eq_step8_iff {acc : Byte} : crc8 d = step8 acc ↔ ∃ hi, d = wordReaching acc hi := by
  have hlow : crc8 d = step8 acc ↔ lowByte d = step8 (Config.crcInit ^^^ highByte d) ^^^ acc :=
    step8_injective.eq_iff.trans (xor_eq_iff_right_eq ..)
  simp only [hlow, wordReaching, eq_dataOfBytes_iff, exists_eq_left']

/-- Settles O35: every result is `step8` of some byte, and one word under each high byte reaches it. -/
theorem eachResultHas256DataWords : Obligations.EachResultHas256DataWords := by
  intro c
  obtain ⟨acc, rfl⟩ := step8_surjective c
  have hcount := length_filter_data_eq_of_iff_exists_byte (p := fun d => crc8 d = step8 acc) (fun _ => True)
    (wordReaching acc) (wordReaching_injective acc) (by simp [crc8_eq_step8_iff])
  exact hcount.trans (by simp)

/-- The error pattern under a high byte that goes undetected. -/
def undetectedPattern (hi : Byte) : Data := dataOfBytes hi (step8 hi)

theorem undetectedPattern_injective : undetectedPattern.Injective :=
  Function.LeftInverse.injective fun hi => highByte_dataOfBytes hi _

/-- A pattern goes undetected when its low byte takes back what `step8` made of its high byte. -/
theorem crc8_xor_eq_iff : crc8 (d ^^^ e) = crc8 d ↔ ∃ hi, e = undetectedPattern hi := by
  have hlow : crc8 (d ^^^ e) = crc8 d ↔ lowByte e = step8 (highByte e) := by
    rw [crc8_xor, xor_left_eq_self_iff, crcDifference, step8_eq_zero_iff, xor_eq_zero_iff, eq_comm]
  simp only [hlow, undetectedPattern, eq_dataOfBytes_iff, exists_eq_left']

/-- R74(b), by exhaustion over the 256 undetected patterns. -/
theorem bitWeight_undetectedPattern : ∀ hi : Byte, bitWeight (undetectedPattern hi) = 0 ∨
    4 ≤ bitWeight (undetectedPattern hi) ∧ bitWeight (undetectedPattern hi) % 2 = 0 := by
  decide +kernel

/-- Settles O36: a pattern of weight 1, 2, 3 or odd is none of the undetected ones. -/
theorem smallAndOddErrorsAreDetected : Obligations.SmallAndOddErrorsAreDetected := by
  intro d e hweight
  have hne : crc8 (d ^^^ e) ≠ crc8 d := by
    intro h
    obtain ⟨hi, rfl⟩ := crc8_xor_eq_iff.1 h
    have hcode := bitWeight_undetectedPattern hi
    omega
  exact ⟨hne, rspMatch_crc8VerifyResponse_of_ne hne⟩

/-- R74(d), by exhaustion over the 256 undetected patterns. -/
theorem length_filter_bitWeight_undetectedPattern :
    ((List.finRange 256).filter fun hi => bitWeight (undetectedPattern (BitVec.ofFin hi)) = 4).length = 19 := by
  decide +kernel

/-- Settles O37: the undetected patterns are the same for every data word. -/
theorem nineteenWeightFourErrorsEscape : Obligations.NineteenWeightFourErrorsEscape := by
  refine ⟨fun d => ?_, by decide +kernel⟩
  have hiff (e : Data) : (bitWeight e = 4 ∧ crc8 (d ^^^ e) = crc8 d) ↔
      ∃ hi, bitWeight (undetectedPattern hi) = 4 ∧ e = undetectedPattern hi := by
    rw [crc8_xor_eq_iff]
    constructor
    · rintro ⟨hweight, hi, rfl⟩
      exact ⟨hi, hweight, rfl⟩
    · rintro ⟨hi, hweight, rfl⟩
      exact ⟨hweight, hi, rfl⟩
  have hcount := length_filter_data_eq_of_iff_exists_byte (fun hi => bitWeight (undetectedPattern hi) = 4)
    undetectedPattern undetectedPattern_injective hiff
  exact hcount.trans length_filter_bitWeight_undetectedPattern

end Sys2Proof.Machine
end

section
/-! The answers of CRC8_COMPUTE and CRC8_VERIFY: the two responses in `exec` and in the step on a word
(40_crc8.md R66, R67). -/

namespace Sys2Proof.Machine

variable {s : State} {w : Word} {i : Instr} {r : Response}

theorem exec_of_respond_some (hp : s.presented = some w) (hr : respond i = some r) :
    exec i s = .next { s with history := s.history ++ [(w, r)] } := by
  rw [exec_eq, hr]
  simp only [State.answer, hp]

/-- Settles O8: the response starts from `Response.zero` and sets `rsp_crc` alone. -/
theorem crc8ComputeGivesTheCrc : Obligations.Crc8ComputeGivesTheCrc :=
  fun _ _ _ hp => exec_of_respond_some hp rfl

/-- Settles O9: the response starts from `Response.zero` and sets `rsp_crc` and the match bit. -/
theorem crc8VerifyGivesMatchAndCrc : Obligations.Crc8VerifyGivesMatchAndCrc :=
  fun _ _ _ _ hp => exec_of_respond_some hp rfl

/-- The step on a presented word that has a response. -/
theorem step_of_present_of_respond_some {rest : List HostInput} (hin : s.inputs = HostInput.present w :: rest)
    (hr : respond (decode w) = some r) :
    step s = .next { history := s.history ++ [(w, r)], refused := s.refused, inputs := rest } := by
  rw [step_of_respond_some (presented_of_present hin).1 hr, hin, List.tail_cons]

/-- Settles O13: the decoder reads op 00 as CRC8_COMPUTE of bits 23:8. -/
theorem computeWordIsAnswered : Obligations.ComputeWordIsAnswered := by
  intro s w rest hin hop
  rw [step_of_present_of_respond_some hin (congrArg respond (decode_of_op0 hop)), dataField_eq]
  rfl

/-- Settles O14: the decoder reads op 01 as CRC8_VERIFY of bits 23:8 against bits 7:0. -/
theorem verifyWordIsAnswered : Obligations.VerifyWordIsAnswered := by
  intro s w rest hin hop
  rw [step_of_present_of_respond_some hin (congrArg respond (decode_of_op1 hop)), dataField_eq, rxCrcField_eq]
  rfl

end Sys2Proof.Machine
end

section
/-! FRAME_VALIDATE, group by group (41_frame_validator.md R78-R86): a group's result when the frame was not received
and when it was, and what its tag and value tell of the group's bytes. -/

namespace Sys2Proof.Machine

section Transport

variable {ok : Bit} {count : Byte}

theorem transportFailed_iff : transportFailed ok count = true ↔ ok = 0 ∨ count ≠ 6 := by
  have hcount : count.toNat = Config.frameBytes ↔ count = 6 := BitVec.toNat_inj (y := 6)
  simp [transportFailed, hcount]

/-- R79: the frame was not received, or both operands say that it was. -/
theorem transport_cases (ok : Bit) (count : Byte) : (ok = 0 ∨ count ≠ 6) ∨ (ok = 1 ∧ count = 6) := by
  have hok : ok = 0 ∨ ok = 1 := BitVec.eq_zero_or_eq_one ok
  tauto

end Transport

section TagsAndValues

variable {t u : Tag} {computed received : Byte}

theorem ofBits_bits (t : Tag) : Tag.ofBits t.bits = some t := by
  cases t <;> rfl

theorem bits_inj : t.bits = u.bits ↔ t = u :=
  ⟨fun h => Option.some.inj (by rw [← ofBits_bits, h, ofBits_bits]), congrArg Tag.bits⟩

theorem checksumTag_eq_valid_iff : checksumTag computed received = .valid ↔ computed = received := by
  unfold checksumTag
  split <;> simp [*]

theorem checksumTag_eq_checksumError_iff : checksumTag computed received = .checksumError ↔ computed ≠ received := by
  unfold checksumTag
  split <;> simp [*]

theorem bits_checksumTag : (checksumTag computed received).bits = if computed = received then 0b00 else 0b01 :=
  apply_ite ..

theorem dataOfBytes_inj {hi lo hi' lo' : Byte} : dataOfBytes hi lo = dataOfBytes hi' lo' ↔ hi = hi' ∧ lo = lo' := by
  rw [eq_dataOfBytes_iff, highByte_dataOfBytes, lowByte_dataOfBytes]

/-- R78: `{hi, lo}` as the shift and OR that the rule gives beside it. -/
theorem dataOfBytes_eq_shiftLeft_or (hi lo : Byte) :
    dataOfBytes hi lo = (hi.setWidth 16 <<< 8) ||| lo.setWidth 16 := by
  refine BitVec.eq_of_getLsbD_eq fun i hwidth => ?_
  rw [getLsbD_dataOfBytes]
  by_cases hlow : i < 8
  · simp [hlow, hwidth]
  · simp [hlow, hwidth, BitVec.getLsbD_of_ge lo i (by omega)]

end TagsAndValues

section Groups

variable {ok ok' : Bit} {count count' : Byte} {b b' : Frame} {g : GroupIndex}

theorem groupResult_of_transportFailed (h : ok = 0 ∨ count ≠ 6) : groupResult ok count b g = lostGroup :=
  if_pos (transportFailed_iff.2 h)

/-- R81: a group's result depends on the transport condition and on its own bytes. -/
theorem groupResult_congr (ht : transportFailed ok count = transportFailed ok' count')
    (hg : frameGroup b g = frameGroup b' g) : groupResult ok count b g = groupResult ok' count' b' g := by
  rw [groupResult, groupResult, ht, hg]

/-- A group tagged other than TRANSPORT_ERROR belongs to a received frame. -/
theorem received_of_tag_ne (h : (groupResult ok count b g).tag ≠ .transportError) : ok = 1 ∧ count = 6 := by
  refine (transport_cases ok count).resolve_left fun hlost => h ?_
  rw [groupResult_of_transportFailed hlost, lostGroup]

/-- R84, for a group. -/
theorem groupResult_valid_iff : (groupResult ok count b g).tag.bits = Tag.valid.bits ↔
    ok = 1 ∧ count = 6 ∧ crc8 (groupValue (frameGroup b g)) = (frameGroup b g).rx := by
  rw [bits_inj]
  constructor
  · intro h
    obtain ⟨rfl, rfl⟩ := received_of_tag_ne (by rw [h]; decide)
    rw [groupResult_received] at h
    exact ⟨rfl, rfl, checksumTag_eq_valid_iff.1 h⟩
  · rintro ⟨rfl, rfl, h⟩
    rw [groupResult_received]
    exact checksumTag_eq_valid_iff.2 h

/-- R82, for a group. -/
theorem groupResult_of_checksumError (h : (groupResult ok count b g).tag.bits = Tag.checksumError.bits) :
    (groupResult ok count b g).val = groupValue (frameGroup b g) ∧
    (groupResult ok count b g).computed = crc8 (groupValue (frameGroup b g)) ∧
    crc8 (groupValue (frameGroup b g)) ≠ (frameGroup b g).rx := by
  have htag := bits_inj.1 h
  obtain ⟨rfl, rfl⟩ := received_of_tag_ne (by rw [htag]; decide)
  rw [groupResult_received] at htag ⊢
  exact ⟨rfl, rfl, checksumTag_eq_checksumError_iff.1 htag⟩

/-- R86, for a group: FRAME_VALIDATE and CRC8_VERIFY compare the same CRC with the same byte. -/
theorem groupResult_received_agrees_with_verify (b : Frame) (g : GroupIndex) :
    ((groupResult 1 6 b g).tag.bits = Tag.valid.bits ↔
      (crc8VerifyResponse (groupValue (frameGroup b g)) (frameGroup b g).rx).rspMatch = 1) ∧
    (groupResult 1 6 b g).computed =
      (crc8VerifyResponse (groupValue (frameGroup b g)) (frameGroup b g).rx).rspCrc := by
  rw [groupResult_received, bits_inj, rspMatch_crc8VerifyResponse_eq_one_iff]
  exact ⟨checksumTag_eq_valid_iff, rfl⟩

/-- R85, for a group: the value shows the first two bytes, the tag how the third compares with the CRC. -/
theorem bytes_of_checkGroup_eq {x y : Group} (h : checkGroup x = checkGroup y) :
    x.hi = y.hi ∧ x.lo = y.lo ∧ (x.rx = crc8 (groupValue x) ↔ y.rx = crc8 (groupValue x)) := by
  have hval : groupValue x = groupValue y := congrArg GroupResult.val h
  have htag : checksumTag (crc8 (groupValue x)) x.rx = checksumTag (crc8 (groupValue y)) y.rx :=
    congrArg GroupResult.tag h
  obtain ⟨hhi, hlo⟩ := dataOfBytes_inj.1 hval
  refine ⟨hhi, hlo, ?_⟩
  rw [eq_comm, ← checksumTag_eq_valid_iff, htag, checksumTag_eq_valid_iff, hval, eq_comm]

end Groups

end Sys2Proof.Machine
end

section
/-! The response of FRAME_VALIDATE: it carries the two group results, and it is the transport failure or the two
checked groups (41_frame_validator.md R80). -/

namespace Sys2Proof.Machine

variable {ok ok' : Bit} {count count' : Byte} {b b' : Frame}

theorem groupResult_eq_of_ports_eq {x y : GroupResult} (htag : x.tag.bits = y.tag.bits) (hval : x.val = y.val)
    (hcomputed : x.computed = y.computed) : x = y := by
  obtain ⟨t, v, c⟩ := x
  obtain ⟨t', v', c'⟩ := y
  rw [GroupResult.mk.injEq, ← bits_inj]
  exact ⟨htag, hval, hcomputed⟩

/-- Nothing of a group's result is lost on the ports. -/
theorem groupResult_eq_of_frameResponse_eq (h : frameResponse ok count b = frameResponse ok' count' b')
    (g : GroupIndex) : groupResult ok count b g = groupResult ok' count' b' g := by
  cases g with
  | one =>
    exact groupResult_eq_of_ports_eq (congrArg Response.rspTag1 h) (congrArg Response.rspVal1 h)
      (congrArg Response.rspCalc1 h)
  | two =>
    exact groupResult_eq_of_ports_eq (congrArg Response.rspTag2 h) (congrArg Response.rspVal2 h)
      (congrArg Response.rspCalc2 h)

/-- R79, R83. -/
theorem frameResponse_of_transportFailed (h : ok = 0 ∨ count ≠ 6) : frameResponse ok count b =
    { rspCrc := 0, rspMatch := 0, rspTag1 := 0b10, rspVal1 := 0, rspCalc1 := 0,
      rspTag2 := 0b10, rspVal2 := 0, rspCalc2 := 0 } := by
  simp only [frameResponse, groupResult_of_transportFailed h]
  rfl

/-- R80, the branch of a received frame. -/
theorem frameResponse_received (b : Frame) : frameResponse 1 6 b =
    { rspCrc := 0, rspMatch := 0,
      rspTag1 := if crc8 (b.b0 ++ b.b1) = b.b2 then 0b00 else 0b01,
      rspVal1 := b.b0 ++ b.b1, rspCalc1 := crc8 (b.b0 ++ b.b1),
      rspTag2 := if crc8 (b.b3 ++ b.b4) = b.b5 then 0b00 else 0b01,
      rspVal2 := b.b3 ++ b.b4, rspCalc2 := crc8 (b.b3 ++ b.b4) } := by
  simp only [frameResponse, groupResult_received, checkGroup, bits_checksumTag]
  rfl

/-- R49, R78: where a request word holds the two groups. -/
theorem frameField_groups (w : Word) :
    (frameField w).b0 ++ (frameField w).b1 = w.extractLsb' 32 16 ∧ (frameField w).b2 = w.extractLsb' 24 8 ∧
    (frameField w).b3 ++ (frameField w).b4 = w.extractLsb' 8 16 ∧ (frameField w).b5 = w.extractLsb' 0 8 := by
  simp only [frameField, frameByte_eq, Nat.reduceMul, Nat.reduceSub,
    BitVec.extractLsb'_append_extractLsb'_eq_extractLsb', and_self]

end Sys2Proof.Machine
end

section
/-! The statements of 41_frame_validator.md. -/

namespace Sys2Proof.Machine

/-- Settles O15: the decoder reads op 10 as FRAME_VALIDATE, and its two responses are those of R80. -/
theorem frameWordIsAnswered : Obligations.FrameWordIsAnswered := by
  intro s w rest hin hop
  rw [step_of_present_of_respond_some hin (congrArg respond (decode_of_op2 hop))]
  by_cases hlost : w.extractLsb' 61 1 = 0 ∨ w.extractLsb' 48 8 ≠ 6
  · rw [if_pos hlost, frameResponse_of_transportFailed (ok := okField w) (count := countField w) hlost]
  · obtain ⟨hok, hcount⟩ := (transport_cases (okField w) (countField w)).resolve_left hlost
    obtain ⟨hval1, hrx1, hval2, hrx2⟩ := frameField_groups w
    rw [if_neg hlost, hok, hcount, frameResponse_received, hval1, hrx1, hval2, hrx2]

/-- Settles O42: each group's ports carry its result. -/
theorem groupsAreIndependent : Obligations.GroupsAreIndependent := by
  intro ok ok' count count' b b' ht
  refine ⟨fun h0 h1 h2 => ?_, fun h3 h4 h5 => ?_⟩
  · have hone : groupResult ok count b .one = groupResult ok' count' b' .one :=
      groupResult_congr ht (by simp only [frameGroup, h0, h1, h2])
    simp only [frameResponse, hone, and_self]
  · have htwo : groupResult ok count b .two = groupResult ok' count' b' .two :=
      groupResult_congr ht (by simp only [frameGroup, h3, h4, h5])
    simp only [frameResponse, htwo, and_self]

/-- Settles O43: the rule for a group, at each group. -/
theorem validMeansTheChecksumMatched : Obligations.ValidMeansTheChecksumMatched := fun _ _ _ =>
  ⟨groupResult_valid_iff (g := .one), groupResult_valid_iff (g := .two)⟩

/-- Settles O44: the rule for a group, at each group. -/
theorem checksumErrorKeepsTheValue : Obligations.ChecksumErrorKeepsTheValue := fun _ _ _ =>
  ⟨groupResult_of_checksumError (g := .one), groupResult_of_checksumError (g := .two)⟩

/-- Settles O45: the rule for a group, at each group. -/
theorem groupTagAgreesWithVerify : Obligations.GroupTagAgreesWithVerify := by
  intro b
  obtain ⟨htag1, hcrc1⟩ := groupResult_received_agrees_with_verify b .one
  obtain ⟨htag2, hcrc2⟩ := groupResult_received_agrees_with_verify b .two
  exact ⟨htag1, htag2, hcrc1, hcrc2⟩

/-- Settles O46: a lost frame has one response, and equal responses to received frames are equal checked groups. -/
theorem frameBytesMatterOnlyWhenReceived : Obligations.FrameBytesMatterOnlyWhenReceived := by
  refine ⟨fun ok count b b' hlost => ?_, fun b b' h => ?_⟩
  · rw [frameResponse_of_transportFailed hlost, frameResponse_of_transportFailed hlost]
  · have hgroup (g : GroupIndex) : checkGroup (frameGroup b g) = checkGroup (frameGroup b' g) := by
      rw [← groupResult_received, ← groupResult_received, groupResult_eq_of_frameResponse_eq h]
    obtain ⟨h0, h1, h2⟩ := bytes_of_checkGroup_eq (hgroup .one)
    obtain ⟨h3, h4, h5⟩ := bytes_of_checkGroup_eq (hgroup .two)
    exact ⟨h0, h1, h3, h4, h2, h5⟩

/-- Settles O10: the shared answer with the response to a received frame. -/
theorem frameValidateChecksEachGroup : Obligations.FrameValidateChecksEachGroup :=
  fun b _ _ hp => exec_of_respond_some hp (congrArg some (frameResponse_received b))

/-- Settles O11: the shared answer with the response to a lost frame. -/
theorem frameValidateReportsTransportFailure : Obligations.FrameValidateReportsTransportFailure :=
  fun _ _ _ _ _ hp hlost => exec_of_respond_some hp (congrArg some (frameResponse_of_transportFailed hlost))

/-- Settles O41: both groups are byte pairs, put together high byte first. -/
theorem measurementIsBigEndian : Obligations.MeasurementIsBigEndian := fun _ =>
  ⟨dataOfBytes_eq_shiftLeft_or .., dataOfBytes_eq_shiftLeft_or .., rfl, rfl⟩

end Sys2Proof.Machine
end

section
/-! What every step and every run do: they complete, and they keep what each single step keeps (60_exceptions.md R89,
R92). -/

namespace Sys2Proof.Machine

variable {s t : State}

theorem step_of_resetAsserted (hr : s.resetAsserted = true) : step s = .next s.takeReset.consumeInput := by
  rw [step, if_pos hr]

theorem step_completes (s : State) : ∃ t, step s = .next t := by
  cases hr : s.resetAsserted with
  | true => exact ⟨_, step_of_resetAsserted hr⟩
  | false =>
    cases hp : s.presented with
    | none => exact ⟨_, step_of_not_presented hp hr⟩
    | some w =>
      obtain ⟨t, he, -⟩ := exec_completes_and_keeps_inputs (decode w) s
      exact ⟨_, step_of_exec hp he⟩

/-- A property of recorded pairs that every new pair has is kept by a step: reset records nothing, any other step adds
what `answerOf` makes of the presented word. -/
theorem step_keeps_forall_history {P : Word × Response → Prop} (hnew : ∀ w e, answerOf w = some e → P e)
    (hs : ∀ e ∈ s.history, P e) (h : step s = .next t) : ∀ e ∈ t.history, P e := by
  cases hr : s.resetAsserted with
  | true => simp [step_history_of_resetAsserted hr h]
  | false =>
    intro e he
    rw [step_history hr h, List.mem_append] at he
    obtain hold | hadded := he
    · exact hs e hold
    · obtain ⟨w, -, hw⟩ := Option.bind_eq_some_iff.1 (Option.mem_toList.1 hadded)
      exact hnew w e hw

/-- From a state with an invariant that every step completes with, a run of any length completes with it. -/
theorem run_completes_of_invariant {M : Host.Core} {P : M.State → Prop}
    (hstep : ∀ s, P s → ∃ t, M.step s = .next t ∧ P t) (n : Nat) {s : M.State} (hs : P s) :
    ∃ t, M.run n s = .next t ∧ P t := by
  induction n generalizing s with
  | zero => exact ⟨s, rfl, hs⟩
  | succ n ih =>
    obtain ⟨u, hu, hPu⟩ := hstep s hs
    rw [run_of_step n hu]
    exact ih hPu

end Sys2Proof.Machine
end

section
/-! The tags of a response (30_encoding.md R56, 60_exceptions.md R93): TRANSPORT_ERROR is decided by the transport
operands, which both groups share. -/

namespace Sys2Proof.Machine

variable {ok : Bit} {count : Byte} {b : Frame} {g : GroupIndex} {r : Response}

theorem bits_ne_three (t : Tag) : t.bits ≠ 0b11#2 := by
  cases t <;> decide

theorem checksumTag_ne_transportError (computed received : Byte) :
    checksumTag computed received ≠ .transportError := by
  unfold checksumTag
  split <;> decide

theorem groupResult_transportError_iff :
    (groupResult ok count b g).tag.bits = Tag.transportError.bits ↔ ok = 0 ∨ count ≠ 6 := by
  rw [bits_inj]
  constructor
  · intro h
    refine (transport_cases ok count).resolve_right ?_
    rintro ⟨rfl, rfl⟩
    rw [groupResult_received] at h
    exact checksumTag_ne_transportError _ _ h
  · intro h
    rw [groupResult_of_transportFailed h, lostGroup]

theorem frameResponse_transportError_iff :
    ((frameResponse ok count b).rspTag1 = 0b10#2 ↔ ok = 0 ∨ count ≠ 6) ∧
    ((frameResponse ok count b).rspTag2 = 0b10#2 ↔ ok = 0 ∨ count ≠ 6) :=
  ⟨groupResult_transportError_iff (g := .one), groupResult_transportError_iff (g := .two)⟩

/-- With both tags 0, as the CRC8 operations leave them, the tags are consistent. -/
theorem tagsConsistent_of_tags_zero (h1 : r.rspTag1 = 0) (h2 : r.rspTag2 = 0) : r.tagsConsistent := by
  rw [Response.tagsConsistent, h1, h2]
  decide

theorem frameResponse_tagsConsistent (ok : Bit) (count : Byte) (b : Frame) :
    (frameResponse ok count b).tagsConsistent := by
  obtain ⟨htag1, htag2⟩ := frameResponse_transportError_iff (ok := ok) (count := count) (b := b)
  exact ⟨bits_ne_three (groupResult ok count b .one).tag, bits_ne_three (groupResult ok count b .two).tag,
    htag1.trans htag2.symm⟩

/-- Every response that an operation gives has consistent tags. -/
theorem tagsConsistent_of_respond {i : Instr} (h : respond i = some r) : r.tagsConsistent := by
  cases i with
  | crc8Compute data =>
    obtain rfl := Option.some.inj h
    exact tagsConsistent_of_tags_zero rfl rfl
  | crc8Verify data rxCrc =>
    obtain rfl := Option.some.inj h
    exact tagsConsistent_of_tags_zero rfl rfl
  | frameValidate ok count b =>
    obtain rfl := Option.some.inj h
    exact frameResponse_tagsConsistent ok count b
  | reservedOp3 => cases h

end Sys2Proof.Machine
end

section
/-! The statements of 60_exceptions.md about the core: consistent tags, completion, and the refused mark. -/

namespace Sys2Proof.Machine

/-- Settles O48: a step keeps a property of recorded pairs, and each new pair holds a response of some operation. -/
theorem stepKeepsTagsConsistent : Obligations.StepKeepsTagsConsistent := fun _ _ hs h =>
  step_keeps_forall_history (fun _ _ hw => tagsConsistent_of_respond (respond_of_answerOf hw)) hs h

/-- Settles O6: a step is a reset, idle, or a meaning, and each of the three completes. -/
theorem noRequestStopsTheCore : Obligations.NoRequestStopsTheCore := by
  refine ⟨fun i s => ?_, step_completes⟩
  obtain ⟨t, he, -⟩ := exec_completes_and_keeps_inputs i s
  exact ⟨t, he⟩

/-- Settles O16: `decodeRequest` answers every other op, a word with op 11 has no response, and a step without reset
only ever adds to the mark. -/
theorem onlyTheReservedOpIsRefused : Obligations.OnlyTheReservedOpIsRefused := by
  refine ⟨fun w => ⟨fun h => ?_, decodeRequest_eq_error⟩, fun s w rest hin hop => ?_, fun s t hr hs h => ?_⟩
  · exact decode_eq_reservedOp3_iff.1 (decode_eq_reservedOp3_of_decodeRequest_error h)
  · rw [step_of_respond_none (presented_of_present hin).1 (respond_decode_eq_none_iff.2 hop), hin, List.tail_cons]
  · exact (step_refused_iff hr h).2 (.inl hs)

section Conforming

variable {s t : State} {w : Word}

theorem safe_iff : s.safe = true ↔ s.refused = false := by
  simp [State.safe]

/-- A conforming host presents only words that have a response. -/
theorem respond_ne_none_of_hostConforms (hc : s.hostConforms = true) (hp : s.presented = some w) :
    respond (decode w) ≠ none := by
  rw [ne_eq, respond_eq_none_iff, ← ne_eq, ← wellFormed_iff]
  unfold State.presented at hp
  split at hp
  · cases hp
  · rename_i i rest hin
    split at hp
    · cases hp
    · have hi : i.conforming = true := List.all_eq_true.1 hc i (by simp [hin])
      rwa [HostInput.conforming, hp] at hi

theorem step_keeps_hostConforms (hc : s.hostConforms = true) (h : step s = .next t) : t.hostConforms = true := by
  rw [State.hostConforms, step_inputs h, List.all_eq_true]
  exact fun i hi => List.all_eq_true.1 hc i (List.mem_of_mem_tail hi)

theorem step_keeps_safe (hc : s.hostConforms = true) (hs : s.safe = true) (h : step s = .next t) :
    t.safe = true := by
  rw [safe_iff] at hs ⊢
  cases hr : s.resetAsserted with
  | true =>
    obtain rfl := Host.Outcome.next.inj ((step_of_resetAsserted hr).symm.trans h)
    rfl
  | false =>
    rw [← Bool.not_eq_true, step_refused_iff hr h]
    rintro (hmark | ⟨w, hp, hnone⟩)
    · simp [hs] at hmark
    · exact respond_ne_none_of_hostConforms hc hp hnone

end Conforming

/-- Settles O50: the mark being clear and the coming inputs conforming is an invariant that every step completes
with. -/
theorem conformingHostIsNeverRefused : Obligations.ConformingHostIsNeverRefused := by
  intro n s hc hs
  refine run_completes_of_invariant (M := Sys2Proof.core)
    (P := fun u : State => u.safe = true ∧ u.hostConforms = true) (fun u ⟨hs, hc⟩ => ?_) n ⟨hs, hc⟩
  obtain ⟨t, h⟩ := step_completes u
  exact ⟨t, h, step_keeps_safe hc hs h, step_keeps_hostConforms hc h⟩

end Sys2Proof.Machine
end

section
/-! The host's request and how the host reads the core's answer to it (60_exceptions.md R105, R106). -/

namespace Sys2Proof.Machine

section Request

variable {writeOk readOk : Bool} {bytes : List Byte}

/-- R48: saturation at 255 makes no other length look like 6 bytes. -/
theorem saturatedCount_eq_six_iff {n : Nat} : saturatedCount n = 6 ↔ n = 6 := by
  rw [← BitVec.toNat_inj, saturatedCount, BitVec.toNat_ofNat]
  change min n 255 % 2 ^ 8 = 6 ↔ n = 6
  omega

/-- The operands of `frameRequest` tell a transport failure exactly when the transfer was bad. -/
theorem transport_operands_iff :
    (BitVec.ofBool (writeOk && readOk) = 0 ∨ saturatedCount bytes.length ≠ 6) ↔
      ¬ (writeOk = true ∧ readOk = true ∧ bytes.length = 6) := by
  have hok : BitVec.ofBool (writeOk && readOk) = 0 ↔ ¬ (writeOk = true ∧ readOk = true) := by
    cases writeOk <;> cases readOk <;> decide
  rw [ne_eq, saturatedCount_eq_six_iff, hok]
  tauto

theorem respond_frameRequest_of_bad_transfer (h : ¬ (writeOk = true ∧ readOk = true ∧ bytes.length = 6)) :
    respond (frameRequest writeOk readOk bytes) = some
      { rspCrc := 0, rspMatch := 0, rspTag1 := 0b10, rspVal1 := 0, rspCalc1 := 0,
        rspTag2 := 0b10, rspVal2 := 0, rspCalc2 := 0 } :=
  congrArg some (frameResponse_of_transportFailed (transport_operands_iff.2 h))

/-- A full read is presented as a received frame of the bytes returned. -/
theorem frameRequest_full (b : Frame) :
    frameRequest true true [b.b0, b.b1, b.b2, b.b3, b.b4, b.b5] = .frameValidate 1 6 b := rfl

end Request

section Answer

variable {p : Poller} {r : Response} {ok : Bit} {count : Byte}

theorem next_response_of_frameReceived (h : p.phase = .frameReceived) (r : Response) :
    p.next (.response r) = p.readResponse r := by
  simp only [Poller.next, h]

theorem next_response_of_transferFailed (h : p.phase = .transferFailed) (r : Response) :
    p.next (.response r) = p.readFailure r := by
  simp only [Poller.next, h]

theorem publishGroup_checksumTag (computed received : Byte) (v : Data) (stale : Option Data) :
    publishGroup (checksumTag computed received) v stale = if computed = received then some v else stale := by
  unfold checksumTag
  split <;> rfl

/-- The telemetry after an answer in which no group is tagged TRANSPORT_ERROR. -/
theorem readResponse_telemetry {t1 t2 : Tag} (htag1 : r.rspTag1 = t1.bits) (htag2 : r.rspTag2 = t2.bits)
    (hne1 : t1 ≠ .transportError) (hne2 : t2 ≠ .transportError) :
    (p.readResponse r).telemetry1 = publishGroup t1 r.rspVal1 p.telemetry1 ∧
    (p.readResponse r).telemetry2 = publishGroup t2 r.rspVal2 p.telemetry2 := by
  simp [Poller.readResponse, htag1, htag2, ofBits_bits, hne1, hne2]

/-- R105: of a received frame each group is published exactly when its checksum matched. -/
theorem next_response_received_telemetry (h : p.phase = .frameReceived) (b : Frame) :
    (p.next (.response (frameResponse 1 6 b))).telemetry1 =
      (if crc8 (b.b0 ++ b.b1) = b.b2 then some (b.b0 ++ b.b1) else p.telemetry1) ∧
    (p.next (.response (frameResponse 1 6 b))).telemetry2 =
      (if crc8 (b.b3 ++ b.b4) = b.b5 then some (b.b3 ++ b.b4) else p.telemetry2) := by
  have htelemetry := readResponse_telemetry (p := p) (r := frameResponse 1 6 b)
    (t1 := checksumTag (crc8 (b.b0 ++ b.b1)) b.b2) (t2 := checksumTag (crc8 (b.b3 ++ b.b4)) b.b5)
    rfl rfl (checksumTag_ne_transportError _ _) (checksumTag_ne_transportError _ _)
  rw [publishGroup_checksumTag, publishGroup_checksumTag] at htelemetry
  rw [next_response_of_frameReceived h]
  exact htelemetry

/-- R106: whichever way the host waits, TRANSPORT_ERROR on both groups aborts the cycle. -/
theorem next_response_of_transportError (h : p.phase = .frameReceived ∨ p.phase = .transferFailed)
    (htag1 : r.rspTag1 = Tag.transportError.bits) (htag2 : r.rspTag2 = Tag.transportError.bits) :
    p.next (.response r) = p.abort := by
  obtain h | h := h
  · rw [next_response_of_frameReceived h]
    simp [Poller.readResponse, htag1, htag2, ofBits_bits]
  · rw [next_response_of_transferFailed h]
    simp [Poller.readFailure, htag1, htag2, ofBits_bits]

end Answer

/-- Settles O55: each group's tag is TRANSPORT_ERROR exactly when the operands tell a failure, and they tell it exactly
of a bad transfer. -/
theorem hostRequestFailsExactlyOnABadTransfer : Obligations.HostRequestFailsExactlyOnABadTransfer := by
  intro writeOk readOk bytes r hr
  obtain rfl := Option.some.inj hr
  obtain ⟨htag1, htag2⟩ := frameResponse_transportError_iff (ok := BitVec.ofBool (writeOk && readOk))
    (count := saturatedCount bytes.length) (b := frameOfBytes bytes)
  rw [htag1, htag2, and_self, transport_operands_iff]
  exact ⟨Iff.rfl, Iff.rfl⟩

/-- Settles O56: the response is that of the frame of the six bytes, received. -/
theorem hostPublishesExactlyTheValidGroups : Obligations.HostPublishesExactlyTheValidGroups := by
  intro p b0 b1 b2 b3 b4 b5 r hphase hr
  obtain rfl := Option.some.inj hr
  exact next_response_received_telemetry hphase { b0, b1, b2, b3, b4, b5 }

/-- Settles O57: both tags of a transport failure are TRANSPORT_ERROR, and `Poller.abort` keeps the telemetry. -/
theorem hostAbortKeepsStaleTelemetry : Obligations.HostAbortKeepsStaleTelemetry := by
  intro p ok count b hphase hlost
  obtain ⟨htag1, htag2⟩ := frameResponse_transportError_iff (ok := ok) (count := count) (b := b)
  rw [next_response_of_transportError hphase (htag1.2 hlost) (htag2.2 hlost)]
  exact ⟨abort_phase p, abort_telemetry1 p, abort_telemetry2 p⟩

end Sys2Proof.Machine
end

section
/-! The settle delay (60_exceptions.md R104, 70_reset_and_hazards.md R116): the wait counts down, and the read is due
when nothing is left of it. -/

namespace Sys2Proof.Machine

variable {p : Poller} {c : Config.Command}

theorem next_timeUnit_of_awaitingResponse {d : Nat} (h : p.phase = .awaitingResponse c (d + 1)) :
    (p.next (.bus .timeUnit)).phase = .awaitingResponse c d := by
  simp only [Poller.next, h, goto_phase]

theorem busCall_of_awaitingResponse {delay : Nat} (h : p.phase = .awaitingResponse c delay) (d : Config.Command) :
    p.busCall d = if delay = 0 then some (responseRead c) else none := by
  cases delay <;> simp [Poller.busCall, h]

/-- The wait after `n` time units, by induction on them. -/
theorem phase_after_timeUnits {delay n : Nat} (h : p.phase = .awaitingResponse c delay) (hn : n ≤ delay) :
    ((List.replicate n (PollEvent.bus .timeUnit)).foldl Poller.next p).phase = .awaitingResponse c (delay - n) := by
  induction n generalizing p delay with
  | zero => exact h
  | succ n ih =>
    obtain ⟨d, rfl⟩ : ∃ d, delay = d + 1 := ⟨delay - 1, by omega⟩
    rw [List.replicate_succ, List.foldl_cons, ih (next_timeUnit_of_awaitingResponse h) (by omega),
      Nat.add_sub_add_right]

/-- Settles O58: the phase after the time units says what is left, and the bus call follows from the phase. -/
theorem hostWaitsTheSettleDelay : Obligations.HostWaitsTheSettleDelay := by
  refine ⟨fun p c h => by simp only [Poller.next, h, goto_phase], fun p c delay n h hn => ?_⟩
  have hphase := phase_after_timeUnits h hn
  have hleft : delay - n = 0 ↔ n = delay := by omega
  refine ⟨hphase, fun d => ?_⟩
  rw [busCall_of_awaitingResponse hphase]
  simp only [hleft]

end Sys2Proof.Machine
end

section
/-! Host and core together (60_exceptions.md R105, R106): one event of the bench, by what the host issues, and the
host's transition on a due read. -/

namespace Sys2Proof.Machine

section BenchStep

variable {b : Bench} {e : BusEvent} {p : Poller} {s : State} {i : Instr} {r : Response}

theorem hostInput_of_issued (hi : p.issued = some i) : p.hostInput = HostInput.present (encode i) := by
  simp only [Poller.hostInput, hi]

theorem hostInput_of_not_issued (hi : p.issued = none) : p.hostInput = HostInput.idle := by
  simp only [Poller.hostInput, hi]

/-- The host reads the pair that the core has just recorded for its request. -/
theorem readAnswer_of_issued {history : List (Word × Response)} {w : Word} (hi : p.issued = some i)
    (hs : s.history = history ++ [(w, r)]) : p.readAnswer s = p.next (.response r) := by
  simp [Poller.readAnswer, State.lastResponse, hi, hs]

theorem readAnswer_of_not_issued (hi : p.issued = none) (s : State) : p.readAnswer s = p := by
  simp only [Poller.readAnswer, hi]

/-- One event, from the core's step on what the host then presents. -/
theorem bench_next_of_step
    (h : step { b.core with inputs := (b.host.next (.bus e)).hostInput :: b.core.inputs } = .next s) :
    b.next e = .next { host := (b.host.next (.bus e)).readAnswer s, core := s } := by
  simp only [Bench.next, h]

/-- An event in which the host issues a request that has a response: the core records the pair, the host reads it. -/
theorem bench_next_of_issued (hi : (b.host.next (.bus e)).issued = some i) (hr : respond i = some r) :
    b.next e = .next
      { host := (b.host.next (.bus e)).next (.response r)
        core := { b.core with history := b.core.history ++ [(encode i, r)] } } := by
  have hin := congrArg (· :: b.core.inputs) (hostInput_of_issued hi)
  have hdecode : respond (decode (encode i)) = some r := by rw [decodeInvertsEncode, hr]
  rw [bench_next_of_step (step_of_present_of_respond_some hin hdecode), readAnswer_of_issued hi rfl]

/-- An event in which the host issues nothing leaves the core as it is. -/
theorem bench_next_of_not_issued (hi : (b.host.next (.bus e)).issued = none) :
    b.next e = .next { host := b.host.next (.bus e), core := b.core } := by
  have hidle : step { b.core with inputs := (b.host.next (.bus e)).hostInput :: b.core.inputs } = .next b.core := by
    rw [hostInput_of_not_issued hi]
    exact step_of_not_presented rfl rfl
  rw [bench_next_of_step hidle, readAnswer_of_not_issued hi]

end BenchStep

section DueRead

variable {p : Poller} {c : Config.Command} {success : Bool} {bytes : List Byte}

theorem next_readDone_full (h : p.phase = .awaitingResponse c 0) (f : Frame) (anyway : Bool) :
    p.next (.bus (.readDone true [f.b0, f.b1, f.b2, f.b3, f.b4, f.b5] anyway)) =
      p.issue .frameReceived (.frameValidate 1 6 f) := by
  rw [← frameRequest_full]
  simp [Poller.next, h, Config.frameBytes]

theorem next_readDone_bad (h : p.phase = .awaitingResponse c 0) (hbad : ¬ (success = true ∧ bytes.length = 6))
    (anyway : Bool) : p.next (.bus (.readDone success bytes anyway)) =
      if anyway then p.issue .transferFailed (frameRequest true success bytes) else p.abort := by
  have hlength : ¬ (success = true ∧ bytes.length = Config.frameBytes) := hbad
  simp only [Poller.next, h, if_neg hlength]

end DueRead

/-- Settles O60: a due read issues the frame's request, or the failure's, or nothing; each is one event of the
bench. -/
theorem hostedReadEndsInOneResponseOrAnAbort : Obligations.HostedReadEndsInOneResponseOrAnAbort := by
  intro b c hphase
  refine ⟨fun f anyway => ?_, fun success bytes anyway hbad => ?_⟩
  · have hnext := next_readDone_full hphase f anyway
    refine ⟨_, bench_next_of_issued (by rw [hnext, issue_issued]) rfl, rfl, rfl, ?_⟩
    rw [hnext]
    exact ⟨(waiting_host (.inr rfl)).1 _, next_response_received_telemetry rfl f⟩
  · have hnext := next_readDone_bad hphase hbad anyway
    cases anyway with
    | true =>
      have hr := respond_frameRequest_of_bad_transfer (writeOk := true) (mt And.right hbad)
      refine ⟨_, bench_next_of_issued (by rw [hnext]; rfl) hr, rfl, rfl, ?_⟩
      rw [hnext, next_response_of_transportError (.inr rfl) rfl rfl]
      exact ⟨rfl, rfl, rfl, rfl⟩
    | false =>
      refine ⟨_, bench_next_of_not_issued (by rw [hnext]; rfl), ?_⟩
      rw [hnext]
      exact ⟨(List.append_nil _).symm, rfl, rfl, rfl, rfl, rfl⟩

end Sys2Proof.Machine
end

section
/-! Reset, and launches that have answered nothing (70_reset_and_hazards.md R108, R110). -/

namespace Sys2Proof.Machine

variable {s t : State} {i : HostInput} {rest : List HostInput}

/-- An input that asserts reset or carries no request gives the core nothing to accept. -/
theorem presented_of_silent_input (hin : s.inputs = i :: rest) (hi : i.reset = true ∨ i.request = none) :
    s.presented = none := by
  rw [State.presented, hin]
  obtain hreset | hrequest := hi
  · exact if_pos hreset
  · simp [hrequest]

/-- With no request accepted, a launch that has answered nothing still has answered nothing after the step. -/
theorem step_keeps_history_nil (hp : s.presented = none) (hs : s.history = []) (h : step s = .next t) :
    t.history = [] := by
  cases hr : s.resetAsserted with
  | true => exact step_history_of_resetAsserted hr h
  | false => simp [step_history hr h, hs, hp]

/-- Settles O3, by induction on the silent inputs: each step keeps the history empty and consumes one of them. -/
theorem noResponseBeforeTheFirstAnswer : Obligations.NoResponseBeforeTheFirstAnswer := by
  intro ins rest
  induction ins with
  | nil => exact fun s hs hin _ => ⟨s, rfl, hs, lastResponse_of_history_nil hs, hin⟩
  | cons i ins ih =>
    intro s hs hin hsilent
    obtain ⟨hi, hins⟩ := List.forall_mem_cons.1 hsilent
    obtain ⟨t, h⟩ := step_completes s
    have ht : t.history = [] := step_keeps_history_nil (presented_of_silent_input hin hi) hs h
    have htail : t.inputs = ins ++ rest := by rw [step_inputs h, hin, List.cons_append, List.tail_cons]
    rw [List.length_cons, run_of_step (M := Sys2Proof.core) ins.length h]
    exact ih t ht htail hins

/-- Settles O2: reset comes before the request that stands beside it, and the step is `takeReset`, then the next
inputs. -/
theorem resetInputStartsANewLaunch : Obligations.ResetInputStartsANewLaunch := by
  intro s lost rest hin
  have hr : s.resetAsserted = true := by rw [State.resetAsserted, hin]; rfl
  refine ⟨presented_of_resetAsserted hr, ?_⟩
  rw [step_of_resetAsserted hr, State.consumeInput, takeReset_inputs, hin]
  rfl

end Sys2Proof.Machine
end
